-- ==== Sys2Proof/Word.lean ====
section
/-! DEFINITION. The bit widths of CORE: bytes, byte strings and 32-bit register words (00_scope.md R8, R9). -/

namespace Sys2Proof

/-- A byte, bits 7 (most significant) to 0 (00_scope.md R8). -/
abbrev Byte := BitVec 8

/-- A 32-bit register word, bits 31 to 0 (00_scope.md R8). -/
abbrev Word := BitVec 32

/-- A byte string, byte 0 first (00_scope.md R9). -/
abbrev Bytes := List Byte

end Sys2Proof
end

