-- ==== Sys2Proof/Config.lean ====
section
/-! DEFINITION. What an implementation of CORE fixes (the two buffer sizes, 00_scope.md R7) and the one free value of
the model (the completion time, 70_reset_and_hazards.md R153). -/

namespace Sys2Proof.Config

/-- The implementation parameters of 00_scope.md R7, held so that only legal sizes can be written down: MSG_BYTES is
`32 * (msgUnits + 1)` and AD_BYTES is `16 * (adUnits + 1)`. The spec leaves them open (D6), so every machine carries its
own (`State.params`) and a statement about every state holds for every size (log 3). -/
structure Params where
  msgUnits : Fin 1024
  adUnits  : Fin 512
  deriving DecidableEq, Repr

/-- MSG_BYTES: a multiple of 32 with 32 ≤ MSG_BYTES ≤ 32768 (00_scope.md R7). -/
def Params.msgBytes (p : Params) : Nat := 32 * (p.msgUnits.val + 1)

/-- AD_BYTES: a multiple of 16 with 16 ≤ AD_BYTES ≤ 8192 (00_scope.md R7). -/
def Params.adBytes (p : Params) : Nat := 16 * (p.adUnits.val + 1)

/-- The sizes of the machine that `State.reset` starts: both buffers at their largest.
DESIGN CHOICE, unsafe for a claim about `State.reset` alone (log 3). -/
def params : Params := ⟨1023, 511⟩

/-- FREE VALUE (log 2): how many moves of the outside world CORE still performs before the completion it owes, for the
`draw`-th acceptance or reset, in the machine state `start` at that moment. No rule fixes when a completion happens, and
it may depend on the command, on lengths and on data (70_reset_and_hazards.md R153), so nothing is said about it. -/
opaque latency {σ : Type} (draw : Nat) (start : σ) : Nat

end Sys2Proof.Config
end

