-- ==== Sys2Proof/Machine/State.lean ====
section
/-! DEFINITION. The state of CORE (10_state.md R14), the moves of the outside world, and the state after reset
(70_reset_and_hazards.md R144). -/

namespace Sys2Proof.Machine

/-- The error codes of 60_exceptions.md R128. Codes 10 to 15 never occur, so they have no constructor (log 5). -/
inductive ErrorCode
  | noError
  | illegalCommand
  | invalidKeyLength
  | invalidBlockSize
  | keyNotExpanded
  | badRound
  | lengthTooLarge
  | badCiphertextLength
  | emptyAd
  | authenticationFailed
  deriving DecidableEq, Repr

/-- PENDING (10_state.md R36): what the engine still owes. STATUS.BUSY is `pending ≠ .idle` (log 4). -/
inductive Pending
  /-- nothing is owed, BUSY = 0 -/
  | idle
  /-- the reset-clear RCLR (70_reset_and_hazards.md R145) -/
  | resetClear
  /-- the accepted command word -/
  | command (w : Word)
  deriving DecidableEq, Repr

/-- The direction of a bus access; a write carries its data (20_memory.md R43). -/
inductive Direction
  | read
  | write (data : Word)
  deriving DecidableEq, Repr

/-- One host access on the bus (20_memory.md R43, R44). -/
structure Access where
  /-- byte offset in CORE's 64 KiB window -/
  offset : BitVec 16
  /-- width in bytes -/
  width : Nat
  /-- every byte lane of that width is enabled (false: a partial byte-enable pattern) -/
  allLanes : Bool
  dir : Direction
  deriving DecidableEq, Repr

/-- The bus response code (20_memory.md R43). -/
inductive RespCode
  | okay
  | error
  deriving DecidableEq, Repr

/-- The response to one access, with the read data of a read (20_memory.md R43). -/
structure Response where
  code : RespCode
  data : Option Word
  deriving DecidableEq, Repr

/-- A move of the outside world (70_reset_and_hazards.md R154): an access on the bus, a wait until BUSY = 0 (the `wait`
of 30_encoding.md R63), or the reset input (70_reset_and_hazards.md R143). -/
inductive Move
  | access (a : Access)
  | waitIdle
  | reset
  deriving DecidableEq, Repr

/-- A schedule word, a 4-byte string with `b0` its first byte (10_state.md R34, 42_key_schedule.md R85). -/
structure SchedWord where
  b0 : Byte
  b1 : Byte
  b2 : Byte
  b3 : Byte
  deriving DecidableEq, Repr

/-- The bytes of the two buffers, keyed by their offset in CORE's window (20_memory.md R47): AD[a] at 0x2000 + a and
MSG[a] at 0x8000 + a. -/
abbrev Memory := List Host.Cell

/-- What a buffer byte that is not listed reads as: the reset value of every byte of MSG and AD (10_state.md R32, R33).
-/
def Memory.unlisted : Byte := 0

/-- The canonical form: addresses strictly rising, and no entry equal to what an unlisted address reads as. -/
abbrev Memory.wf (m : Memory) : Prop :=
  m.Pairwise (fun c d => c.1 < d.1) ∧ ∀ c ∈ m, c.2 ≠ Memory.unlisted

/-- The state of CORE, every piece that 10_state.md R14 names, and below it the model's own fields. -/
structure State where
  /-- MSG_BYTES and AD_BYTES (00_scope.md R7); no step changes them -/
  params : Config.Params
  /-- CTRL.IRQ_EN (10_state.md R18) -/
  irqEn : Bool
  /-- CFG.NB, bits 3:0 (10_state.md R19) -/
  nb : BitVec 4
  /-- CFG.NK, bits 7:4 (10_state.md R19) -/
  nk : BitVec 4
  /-- CMD (10_state.md R20) -/
  cmd : Word
  /-- STATUS.DONE, bit 1 (10_state.md R21) -/
  done : Bool
  /-- STATUS.KEYVALID, bit 3 (10_state.md R22) -/
  keyValid : Bool
  /-- STATUS.OVR, bit 4 (10_state.md R21) -/
  ovr : Bool
  /-- STATUS.ERRCODE, bits 11:8 (10_state.md R21, 60_exceptions.md R128) -/
  errCode : ErrorCode
  /-- RESULT, bits 7:0 (10_state.md R23) -/
  result : Byte
  /-- MSG_LEN (10_state.md R24) -/
  msgLen : Word
  /-- AD_LEN (10_state.md R25) -/
  adLen : Word
  /-- KEY (10_state.md R28) -/
  key : Vector Byte 32
  /-- BLK (10_state.md R29) -/
  blk : Vector Byte 32
  /-- IV (10_state.md R30) -/
  iv : Vector Byte 32
  /-- TAG (10_state.md R31) -/
  tag : Vector Byte 16
  /-- MSG and AD (10_state.md R32, R33) -/
  mem : Memory
  /-- W, the hidden schedule (10_state.md R34) -/
  w : Vector SchedWord 120
  /-- SNB (10_state.md R35) -/
  snb : BitVec 4
  /-- SNK (10_state.md R35) -/
  snk : BitVec 4
  /-- PENDING, with BUSY (10_state.md R36) -/
  pending : Pending
  /-- the model's own (log 1): moves of the outside world not yet performed, oldest first -/
  inputs : List Move
  /-- the model's own (log 1): responses given on the bus, oldest first -/
  responses : List Response
  /-- the model's own (log 2): outside moves still performed before the pending completion -/
  delay : Nat
  /-- the model's own (log 2): how often `Config.latency` has been applied -/
  draws : Nat
  deriving DecidableEq, Repr

/-- Why the machine would stop with a fault. No rule stops CORE (70_reset_and_hazards.md R154: nothing the host can do
makes CORE stuck or hang; 60_exceptions.md R134: no error is a trap), so there is no constructor and nobody raises one:
safe (log 8). -/
inductive Fault
  deriving DecidableEq, Repr

/-- Why an instruction has no meaning. -/
inductive Refusal
  /-- raised by an arm of `exec` whose instruction has no meaning yet; no arm is left that does: safe -/
  | notModelled (mnemonic : String)
  deriving DecidableEq, Repr

/-- The constant ID register, "RIJD" (10_state.md R17). -/
def State.idValue : Word := 0x52494A44

/-- The state right after reset of a machine with the parameters `p` (70_reset_and_hazards.md R143, R144): zeros,
CFG = 0x44, and the reset-clear pending. The model's own fields take the values of log 1 and 2. -/
def State.resetWith (p : Config.Params) : State where
  params    := p
  irqEn     := false
  nb        := 4
  nk        := 4
  cmd       := 0
  done      := false
  keyValid  := false
  ovr       := false
  errCode   := .noError
  result    := 0
  msgLen    := 0
  adLen     := 0
  key       := Vector.replicate 32 0
  blk       := Vector.replicate 32 0
  iv        := Vector.replicate 32 0
  tag       := Vector.replicate 16 0
  mem       := []
  w         := Vector.replicate 120 ⟨0, 0, 0, 0⟩
  snb       := 0
  snk       := 0
  pending   := .resetClear
  inputs    := []
  responses := []
  delay     := 0
  draws     := 0

/-- The machine right after reset (70_reset_and_hazards.md R144), with the buffer sizes of `Config.params` (log 3). -/
def State.reset : State := State.resetWith Config.params

end Sys2Proof.Machine
end

