-- ==== Sys2Proof/Machine/Flags.lean ====
section
/-! DEFINITION. The flags of CORE, the bits of STATUS (10_state.md R21, R22, R40), and the interrupt output
(60_exceptions.md R133). CORE has no condition codes (10_state.md R40). -/

namespace Sys2Proof.Machine

/-- The number of an error code (60_exceptions.md R128). -/
def ErrorCode.code : ErrorCode → BitVec 4
  | .noError              => 0
  | .illegalCommand       => 1
  | .invalidKeyLength     => 2
  | .invalidBlockSize     => 3
  | .keyNotExpanded       => 4
  | .badRound             => 5
  | .lengthTooLarge       => 6
  | .badCiphertextLength  => 7
  | .emptyAd              => 8
  | .authenticationFailed => 9

/-- STATUS.BUSY: a command or the reset-clear is in progress (10_state.md R21, R36). -/
def State.busy (s : State) : Bool := s.pending != .idle

/-- STATUS.ERR reads as (ERRCODE ≠ 0) at every moment (10_state.md R21, 40_control.md R65). -/
def State.err (s : State) : Bool := s.errCode.code != 0

/-- The STATUS word (10_state.md R21): 31:12 zero, ERRCODE, 7:5 zero, OVR, KEYVALID, ERR, DONE, BUSY. -/
def State.status (s : State) : Word :=
  (0 : BitVec 20) ++ s.errCode.code ++ (0 : BitVec 3) ++ BitVec.ofBool s.ovr ++ BitVec.ofBool s.keyValid ++
    BitVec.ofBool s.err ++ BitVec.ofBool s.done ++ BitVec.ofBool s.busy

/-- A write to STATUS clears DONE where bit 1 is 1 and OVR where bit 4 is 1; all other bits are ignored
(10_state.md R21). -/
def State.writeStatus (v : Word) (s : State) : State :=
  { s with done := s.done && !v.getLsbD 1, ovr := s.ovr && !v.getLsbD 4 }

/-- A write that BUSY = 1 makes CORE ignore sets OVR (10_state.md R42 (d)). -/
def State.setOvr (s : State) : State := { s with ovr := true }

/-- The CTRL word: IRQ_EN in bit 0, the reserved bits read 0 (10_state.md R18). -/
def State.ctrl (s : State) : Word := (0 : BitVec 31) ++ BitVec.ofBool s.irqEn

/-- The CFG word: NK in bits 7:4, NB in bits 3:0, the reserved bits read 0 (10_state.md R19). -/
def State.cfg (s : State) : Word := (0 : BitVec 24) ++ s.nk ++ s.nb

/-- The interrupt output, `CTRL.IRQ_EN AND STATUS.DONE` at every moment (60_exceptions.md R133). -/
def State.irq (s : State) : Bool := s.irqEn && s.done

end Sys2Proof.Machine
end

