-- ==== Sys2Proof/Machine/Operands.lean ====
section
/-! DEFINITION. The operand forms of CORE: byte strings and their packing into words (00_scope.md R9, R10; 10_state.md
R16; 20_memory.md R45), the byte-string registers, and the geometry a command works at (00_scope.md R6, 10_state.md
R35). -/

namespace Sys2Proof.Machine

/-! ### Byte strings (00_scope.md R9) -/

/-- `0^n`. -/
def zeroBytes (n : Nat) : Bytes := List.replicate n 0

/-- `s ⊕ t` for two strings of equal length. -/
def xorBytes (s t : Bytes) : Bytes := List.zipWith (· ^^^ ·) s t

/-- `⌈a/b⌉`. -/
def ceilDiv (a b : Nat) : Nat := (a + b - 1) / b

/-- `num2str(v, n)`: v big-endian in n bytes, byte 0 the most significant. -/
def num2str (v n : Nat) : Bytes := (List.range n).map fun i => BitVec.ofNat 8 (v / 256 ^ (n - 1 - i))

/-- The first `k` blocks of `size` bytes of a string. -/
def splitBlocks (size : Nat) : Nat → Bytes → List Bytes
  | 0, _     => []
  | k + 1, s => s.take size :: splitBlocks size k (s.drop size)

/-! ### The state matrix (00_scope.md R10) -/

/-- `st[r,c]`: byte `4·c + r` of the state. -/
def cell (st : Bytes) (r c : Nat) : Byte := st.getD (4 * c + r) 0

/-- The 4-row × `nb`-column state whose byte at row r, column c is `f r c`. -/
def matrix (nb : Nat) (f : Nat → Nat → Byte) : Bytes := (List.range (4 * nb)).map fun i => f (i % 4) (i / 4)

/-! ### Byte lanes (20_memory.md R45) -/

/-- `B[a] | B[a+1] << 8 | B[a+2] << 16 | B[a+3] << 24`. -/
def packWord (b0 b1 b2 b3 : Byte) : Word :=
  b0.setWidth 32 ||| b1.setWidth 32 <<< 8 ||| b2.setWidth 32 <<< 16 ||| b3.setWidth 32 <<< 24

/-- The byte in lane j, bits `[8j+7 : 8j]` of a word. -/
def laneOf (v : Word) (j : Nat) : Byte := v.extractLsb' (8 * j) 8

/-! ### Byte-string registers (10_state.md R16) -/

/-- Byte j of a register. -/
def byteOf {n : Nat} (reg : Vector Byte n) (j : Nat) : Byte := reg[j]?.getD 0

/-- Word k of a register: bytes 4k (bits 7:0) to 4k+3 (bits 31:24). -/
def wordOf {n : Nat} (reg : Vector Byte n) (k : Nat) : Word :=
  packWord (byteOf reg (4 * k)) (byteOf reg (4 * k + 1)) (byteOf reg (4 * k + 2)) (byteOf reg (4 * k + 3))

/-- The register after word k is replaced. -/
def setWordOf {n : Nat} (reg : Vector Byte n) (k : Nat) (v : Word) : Vector Byte n :=
  reg.mapIdx fun j b => if j / 4 = k then laneOf v (j % 4) else b

/-- `REG[0..n]`. -/
def firstBytes {m : Nat} (reg : Vector Byte m) (n : Nat) : Bytes := reg.toList.take n

/-- The register after `REG[0..|s|] <- s`; the bytes beyond keep their values (10_state.md R29). -/
def overwrite {m : Nat} (reg : Vector Byte m) (s : Bytes) : Vector Byte m := reg.mapIdx fun j b => s.getD j b

/-! ### Geometry (00_scope.md R6) -/

/-- The legal values of Nb and of Nk: 4, 6 and 8. -/
def legalWords (n : BitVec 4) : Bool := n == 4 || n == 6 || n == 8

/-- Nr = max(Nb, Nk) + 6. -/
def roundCount (nb nk : Nat) : Nat := max nb nk + 6

/-- The length of the schedule, Nb·(Nr+1) words (42_key_schedule.md R84). -/
def scheduleLength (nb nk : Nat) : Nat := nb * (roundCount nb nk + 1)

/-- Nb of the schedule in W (10_state.md R35). -/
def State.schedNb (s : State) : Nat := s.snb.toNat

/-- Nr of the schedule in W (10_state.md R35). -/
def State.schedNr (s : State) : Nat := roundCount s.snb.toNat s.snk.toNat

/-- Word i of the schedule (10_state.md R34). -/
def scheduleWord (w : Vector SchedWord 120) (i : Nat) : SchedWord := w[i]?.getD ⟨0, 0, 0, 0⟩

/-- Byte r of a schedule word. -/
def SchedWord.byte (t : SchedWord) : Nat → Byte
  | 0 => t.b0
  | 1 => t.b1
  | 2 => t.b2
  | _ => t.b3

end Sys2Proof.Machine
end

