-- ==== Sys2Proof/Machine/Ops.lean ====
section
/-! DEFINITION. The operations the commands share: the buffers (10_state.md R32, R33), the registers' whole-string
writes, acceptance and completion (40_control.md R64, R65), and ending with an error (60_exceptions.md R130). -/

namespace Sys2Proof.Machine

/-! ### The buffer bytes -/

/-- The byte at window offset `a`; an unlisted byte reads its reset value (10_state.md R32, R33). -/
def Memory.read : Memory → Nat → Byte
  | [], _          => Memory.unlisted
  | (k, v) :: m, a => if a = k then v else Memory.read m a

/-- The memory after the byte at window offset `a` is written. It stays in canonical form: entries in rising order, and
none for a byte that holds what an unlisted byte reads as. -/
def Memory.write : Memory → Nat → Byte → Memory
  | [], a, v          => if v = Memory.unlisted then [] else [(a, v)]
  | (k, u) :: m, a, v =>
    if a < k then (if v = Memory.unlisted then (k, u) :: m else (a, v) :: (k, u) :: m)
    else if a = k then (if v = Memory.unlisted then m else (a, v) :: m)
    else (k, u) :: Memory.write m a v

/-- The memory after the bytes `s` are written from window offset `a` on. -/
def Memory.writeBytes : Memory → Nat → Bytes → Memory
  | m, _, []     => m
  | m, a, v :: s => Memory.writeBytes (Memory.write m a v) (a + 1) s

/-- `n` bytes from window offset `a` on. -/
def Memory.readBytes (m : Memory) (a n : Nat) : Bytes := (List.range n).map fun i => Memory.read m (a + i)

/-- The word at window offset `a` (20_memory.md R45). -/
def Memory.readWord (m : Memory) (a : Nat) : Word :=
  packWord (m.read a) (m.read (a + 1)) (m.read (a + 2)) (m.read (a + 3))

/-- The memory after the word at window offset `a` is written (20_memory.md R45). -/
def Memory.writeWord (m : Memory) (a : Nat) (v : Word) : Memory :=
  m.writeBytes a [laneOf v 0, laneOf v 1, laneOf v 2, laneOf v 3]

/-- Where MSG and AD start in the window (20_memory.md R47). -/
def msgBase : Nat := 0x8000
def adBase : Nat := 0x2000

/-- `MSG[0..n]`. -/
def State.msgPart (s : State) (n : Nat) : Bytes := s.mem.readBytes msgBase n

/-- `AD[0..n]`. -/
def State.adPart (s : State) (n : Nat) : Bytes := s.mem.readBytes adBase n

/-! ### What a command writes -/

/-- `BLK[0..|st|] <- st`. -/
def State.storeBlk (s : State) (st : Bytes) : State := { s with blk := overwrite s.blk st }

/-- `TAG[0..|t|] <- t`. -/
def State.storeTag (s : State) (t : Bytes) : State := { s with tag := overwrite s.tag t }

/-- `RESULT <- zext_32(b)`: bits 31:8 always read 0 (10_state.md R23). -/
def State.storeResult (s : State) (b : Byte) : State := { s with result := b }

/-- `MSG[0..|m|] <- m`. -/
def State.storeMsg (s : State) (m : Bytes) : State := { s with mem := s.mem.writeBytes msgBase m }

/-- `MSG_LEN <- n`. -/
def State.storeMsgLen (s : State) (n : Nat) : State := { s with msgLen := BitVec.ofNat 32 n }

/-! ### Acceptance, completion, errors -/

/-- The register effects of accepting a command word (40_control.md R64): CMD, PENDING with BUSY, DONE, ERRCODE. -/
def State.latch (w : Word) (s : State) : State :=
  { s with cmd := w, pending := .command w, done := false, errCode := .noError }

/-- When the completion now owed will come: the next free value (log 2, 70_reset_and_hazards.md R153). -/
def State.armEngine (s : State) : State := { s with delay := Config.latency s.draws s, draws := s.draws + 1 }

/-- Acceptance of a command word (40_control.md R64). -/
def State.accept (w : Word) (s : State) : State := (s.latch w).armEngine

/-- The end of a completion (40_control.md R65): ERRCODE takes the outcome's code, BUSY falls, DONE rises. -/
def State.complete (e : ErrorCode) (s : State) : State :=
  { s with errCode := e, pending := .idle, done := true }

/-- `raise <Error>` (60_exceptions.md R130): the command completes with the error's code and nothing else changes. This
is all that CORE has of an exception: no state is saved and there is no handler (60_exceptions.md R134), so there is no
return either (60_exceptions.md R135). -/
def State.fail (e : ErrorCode) (s : State) : State := s.complete e

/-- The completion of the reset-clear (70_reset_and_hazards.md R145): BUSY falls; DONE and ERRCODE keep their values. -/
def State.finishResetClear (s : State) : State := { s with pending := .idle }

/-- One check of a command: whether it fails and the code it then reports (60_exceptions.md R129). -/
structure Check where
  fails : Bool
  code  : ErrorCode
  deriving DecidableEq, Repr

/-- The code of the first failing check, in the order of the list (40_control.md R65). -/
def firstFailing : List Check → Option ErrorCode
  | []      => none
  | c :: cs => if c.fails then some c.code else firstFailing cs

/-- The completion of a decoded command (40_control.md R65): the first failing check ends it, otherwise its pseudocode
runs and completes with the code it ends with. -/
def runCommand (checks : List Check) (effect : State → State × ErrorCode) (s : State) :
    Host.Outcome State Fault Refusal :=
  match firstFailing checks with
  | some e => .next (s.fail e)
  | none   => .next ((effect s).1.complete (effect s).2)

/-- A command whose pseudocode ends in success. -/
def runTotal (checks : List Check) (effect : State → State) (s : State) : Host.Outcome State Fault Refusal :=
  runCommand checks (fun t => (effect t, .noError)) s

/-! ### The checks (60_exceptions.md R129) -/

/-- Code 2: CFG.NK ∉ {4, 6, 8}. -/
def State.keyLengthCheck (s : State) : Check := ⟨!legalWords s.nk, .invalidKeyLength⟩

/-- Code 3: CFG.NB ∉ {4, 6, 8}. -/
def State.blockSizeCheck (s : State) : Check := ⟨!legalWords s.nb, .invalidBlockSize⟩

/-- Code 3 of PMAC, OCB_ENC and OCB_DEC: CFG.NB ≠ 4. -/
def State.ocbBlockCheck (s : State) : Check := ⟨s.nb != 4, .invalidBlockSize⟩

/-- Code 4: STATUS.KEYVALID = 0. -/
def State.keyCheck (s : State) : Check := ⟨!s.keyValid, .keyNotExpanded⟩

/-- Code 5: r > max(SNB, SNK) + 6. -/
def State.roundCheck (s : State) (r : Byte) : Check := ⟨decide (s.schedNr < r.toNat), .badRound⟩

/-- Code 6 of CBC_ENC: ⌈MSG_LEN / (4·SNB)⌉·4·SNB > MSG_BYTES, over the natural numbers. -/
def State.paddedLengthCheck (s : State) : Check :=
  ⟨decide (s.params.msgBytes < ceilDiv s.msgLen.toNat (4 * s.schedNb) * (4 * s.schedNb)), .lengthTooLarge⟩

/-- Code 6 of CBC_DEC: MSG_LEN > MSG_BYTES. -/
def State.msgLengthCheck (s : State) : Check := ⟨decide (s.params.msgBytes < s.msgLen.toNat), .lengthTooLarge⟩

/-- Code 6 of PMAC: AD_LEN > AD_BYTES. -/
def State.adLengthCheck (s : State) : Check := ⟨decide (s.params.adBytes < s.adLen.toNat), .lengthTooLarge⟩

/-- Code 7: MSG_LEN mod (4·SNB) ≠ 0. -/
def State.wholeBlocksCheck (s : State) : Check :=
  ⟨s.msgLen.toNat % (4 * s.schedNb) != 0, .badCiphertextLength⟩

/-- Code 8: AD_LEN = 0. -/
def State.emptyAdCheck (s : State) : Check := ⟨s.adLen == 0, .emptyAd⟩

end Sys2Proof.Machine
end

