-- ==== Sys2Proof/Machine/Bus.lean ====
section
/-! DEFINITION. The bus port: the address map, reads and writes of registers and buffers, and refused accesses
(20_memory.md R43 to R50, 10_state.md R15 to R33, R42). -/

namespace Sys2Proof.Machine

/-- What stands at an offset of the window (10_state.md R15, 20_memory.md R47). -/
inductive Target
  | id
  | ctrl
  | cfg
  | cmd
  | status
  | result
  | msgLen
  | adLen
  | msgSize
  | adSize
  | key (k : Nat)
  | blk (k : Nat)
  | iv (k : Nat)
  | tag (k : Nat)
  /-- the AD bytes from this index on -/
  | ad (a : Nat)
  /-- the MSG bytes from this index on -/
  | msg (a : Nat)
  /-- a reserved offset, or one beyond a buffer's size (20_memory.md R48) -/
  | reserved
  deriving DecidableEq, Repr

/-- The single registers at offsets 0x000 to 0x03F (10_state.md R15). -/
def controlTarget (o : Nat) : Target :=
  match o with
  | 0x000 => .id
  | 0x004 => .ctrl
  | 0x008 => .cfg
  | 0x00C => .cmd
  | 0x010 => .status
  | 0x014 => .result
  | 0x018 => .msgLen
  | 0x01C => .adLen
  | 0x020 => .msgSize
  | 0x024 => .adSize
  | _     => .reserved

/-- The address map for an aligned offset (20_memory.md R47, R48). -/
def targetOf (p : Config.Params) (o : Nat) : Target :=
  if o < 0x040 then controlTarget o
  else if o < 0x060 then .key ((o - 0x040) / 4)
  else if o < 0x080 then .blk ((o - 0x060) / 4)
  else if o < 0x0A0 then .iv ((o - 0x080) / 4)
  else if o < 0x0B0 then .tag ((o - 0x0A0) / 4)
  else if adBase ≤ o ∧ o < adBase + p.adBytes then .ad (o - adBase)
  else if msgBase ≤ o ∧ o < msgBase + p.msgBytes then .msg (o - msgBase)
  else .reserved

/-- The data registers and buffers, which read 0 while BUSY = 1 (10_state.md R42 (b)). -/
def Target.hiddenWhileBusy : Target → Bool
  | .result | .msgLen | .adLen | .key _ | .blk _ | .iv _ | .tag _ | .ad _ | .msg _ => true
  | .id | .ctrl | .cfg | .cmd | .status | .msgSize | .adSize | .reserved           => false

/-- What a write is ignored to while BUSY = 1, setting OVR (10_state.md R42 (d), (e); log 14). -/
def Target.lockedWhileBusy : Target → Bool
  | .cfg | .cmd | .msgLen | .adLen | .key _ | .blk _ | .iv _ | .tag _ | .ad _ | .msg _ => true
  | .id | .ctrl | .status | .result | .msgSize | .adSize | .reserved                   => false

/-- The value a target reads as while BUSY = 0; KEY is write-only and reserved offsets read 0 (10_state.md R28,
20_memory.md R48). -/
def State.valueOf (s : State) : Target → Word
  | .id       => State.idValue
  | .ctrl     => s.ctrl
  | .cfg      => s.cfg
  | .cmd      => s.cmd
  | .status   => s.status
  | .result   => s.result.setWidth 32
  | .msgLen   => s.msgLen
  | .adLen    => s.adLen
  | .msgSize  => BitVec.ofNat 32 s.params.msgBytes
  | .adSize   => BitVec.ofNat 32 s.params.adBytes
  | .key _    => 0
  | .blk k    => wordOf s.blk k
  | .iv k     => wordOf s.iv k
  | .tag k    => wordOf s.tag k
  | .ad a     => s.mem.readWord (adBase + a)
  | .msg a    => s.mem.readWord (msgBase + a)
  | .reserved => 0

/-- What a read returns (10_state.md R42 (a), (b)). -/
def State.readTarget (s : State) (t : Target) : Word :=
  if s.busy && t.hiddenWhileBusy then 0 else s.valueOf t

/-- A write to CFG that is accepted: NB, NK and KEYVALID (10_state.md R19, R22). -/
def State.writeCfg (v : Word) (s : State) : State :=
  { s with nb := v.extractLsb' 0 4, nk := v.extractLsb' 4 4, keyValid := false }

/-- A write to a KEY word that is accepted: the word and KEYVALID (10_state.md R28, R22). -/
def State.writeKey (k : Nat) (v : Word) (s : State) : State :=
  { s with key := setWordOf s.key k v, keyValid := false }

/-- The effect of a write that is not ignored (20_memory.md R50). A write to CMD is the acceptance of a command
(40_control.md R64); read-only registers and reserved offsets ignore the write. -/
def State.storeTarget (v : Word) (s : State) : Target → State
  | .id       => s
  | .ctrl     => { s with irqEn := v.getLsbD 0 }
  | .cfg      => s.writeCfg v
  | .cmd      => s.accept v
  | .status   => s.writeStatus v
  | .result   => s
  | .msgLen   => { s with msgLen := v }
  | .adLen    => { s with adLen := v }
  | .msgSize  => s
  | .adSize   => s
  | .key k    => s.writeKey k v
  | .blk k    => { s with blk := setWordOf s.blk k v }
  | .iv k     => { s with iv := setWordOf s.iv k v }
  | .tag k    => { s with tag := setWordOf s.tag k v }
  | .ad a     => { s with mem := s.mem.writeWord (adBase + a) v }
  | .msg a    => { s with mem := s.mem.writeWord (msgBase + a) v }
  | .reserved => s

/-- A write (10_state.md R42 (c), (d), (e)): ignored with OVR when BUSY = 1 locks the target. -/
def State.writeTarget (t : Target) (v : Word) (s : State) : State :=
  if s.busy && t.lockedWhileBusy then s.setOvr else s.storeTarget v t

/-- CORE performs aligned 32-bit accesses alone (20_memory.md R44). -/
def Access.performed (a : Access) : Bool := a.width == 4 && a.allLanes && a.offset.toNat % 4 == 0

/-- The response to an access: OKAY with the data of a read, or ERROR with data 0 (20_memory.md R43, R44). -/
def State.responseTo (s : State) (a : Access) : Response :=
  match a.performed, a.dir with
  | true, .read     => ⟨.okay, some (s.readTarget (targetOf s.params a.offset.toNat))⟩
  | true, .write _  => ⟨.okay, none⟩
  | false, .read    => ⟨.error, some 0⟩
  | false, .write _ => ⟨.error, none⟩

/-- The effect of an access on CORE: no read and no refused access changes anything (20_memory.md R44, R50). -/
def State.afterAccess (a : Access) (s : State) : State :=
  match a.performed, a.dir with
  | true, .write v => s.writeTarget (targetOf s.params a.offset.toNat) v
  | true, .read    => s
  | false, _       => s

/-- One indivisible host access: its effect, and its response on the port (20_memory.md R43). -/
def State.access (a : Access) (s : State) : State :=
  { s.afterAccess a with responses := s.responses ++ [s.responseTo a] }

/-- The reset input (70_reset_and_hazards.md R143): everything of CORE to its reset value, what was pending is aborted
and the reset-clear becomes pending. The buffer sizes are the implementation's, and the model's own fields are no state
of CORE: both stay, with a new free completion time for the reset-clear (log 2, 7). -/
def State.applyReset (s : State) : State :=
  State.armEngine
    { State.resetWith s.params with
      inputs := s.inputs, responses := s.responses, delay := s.delay, draws := s.draws }

end Sys2Proof.Machine
end

