-- ==== Sys2Proof/Syntax.lean ====
section
/-! DEFINITION. The 23 commands of CORE (30_encoding.md R59, spec/opcode_table.json) and the fields of a command word
(30_encoding.md R57). -/

namespace Sys2Proof

/-- One constructor per row of the opcode table (30_encoding.md R59). The operand bytes are the fields A and B of the
command word, used as they stand (30_encoding.md R58); every other operand of a command is implicit. -/
inductive Instr
  | nop
  | zeroize
  | keyexp
  | encBlock
  | decBlock
  | subBytes
  | invSubBytes
  | shiftRows
  | invShiftRows
  | mixColumns
  | invMixColumns
  | addRoundKey (r : Byte)
  | sbox (x : Byte)
  | invSbox (x : Byte)
  | gf8Mul (x y : Byte)
  | gf8Inv (x : Byte)
  | gf128Double
  | gf128Triple
  | cbcEnc
  | cbcDec
  | pmac
  | ocbEnc
  | ocbDec
  deriving DecidableEq, Repr

/-- The four fields of the one command format CMD32 (30_encoding.md R57). -/
structure Cmd32 where
  /-- bits 7:0 -/
  op : Byte
  /-- bits 15:8 -/
  a : Byte
  /-- bits 23:16 -/
  b : Byte
  /-- bits 31:24, reserved -/
  z : Byte
  deriving DecidableEq, Repr

end Sys2Proof
end

