-- ==== Sys2Proof/WellFormed.lean ====
section
/-! DEFINITION. When a command word is legal (30_encoding.md R60), said from the "uses" column of the opcode map
(30_encoding.md R59) and independently of the decoder. -/

namespace Sys2Proof

/-- One row of the opcode map: the OP value and which of A and B the command reads (30_encoding.md R59). -/
structure OpRow where
  op    : Byte
  usesA : Bool
  usesB : Bool
  deriving DecidableEq, Repr

/-- The opcode map of 30_encoding.md R59, in its order. -/
def opcodeMap : List OpRow :=
  [⟨0x00, false, false⟩, ⟨0x01, false, false⟩, ⟨0x02, false, false⟩, ⟨0x03, false, false⟩, ⟨0x04, false, false⟩] ++
  [⟨0x10, false, false⟩, ⟨0x11, false, false⟩, ⟨0x12, false, false⟩, ⟨0x13, false, false⟩, ⟨0x14, false, false⟩,
   ⟨0x15, false, false⟩, ⟨0x16, true, false⟩] ++
  [⟨0x20, true, false⟩, ⟨0x21, true, false⟩, ⟨0x22, true, true⟩, ⟨0x23, true, false⟩] ++
  [⟨0x28, false, false⟩, ⟨0x29, false, false⟩] ++
  [⟨0x30, false, false⟩, ⟨0x31, false, false⟩] ++
  [⟨0x38, false, false⟩, ⟨0x39, false, false⟩, ⟨0x3A, false, false⟩]

/-- The OP value is assigned (30_encoding.md R60 (a)). -/
def Cmd32.opAssigned (c : Cmd32) : Bool := opcodeMap.any fun row => row.op == c.op

/-- Every field that the command does not use is zero (30_encoding.md R60 (b)). -/
def Cmd32.unusedZero (c : Cmd32) : Bool :=
  c.z == 0 && opcodeMap.all fun row => row.op != c.op || ((row.usesA || c.a == 0) && (row.usesB || c.b == 0))

/-- A command word is legal: neither case of 30_encoding.md R60 holds. -/
def Cmd32.wellFormed (c : Cmd32) : Bool := c.opAssigned && c.unusedZero

/-- A command is well formed whatever bytes its operands are: A and B are unsigned 8-bit immediates (30_encoding.md
R58), and a round index above Nr is a legal word that ends in BAD_ROUND (43_cipher_rounds.md R106). -/
def Instr.wellFormed : Instr → Bool
  | .nop | .zeroize | .keyexp | .encBlock | .decBlock => true
  | .subBytes | .invSubBytes | .shiftRows | .invShiftRows | .mixColumns | .invMixColumns => true
  | .addRoundKey _ | .sbox _ | .invSbox _ | .gf8Mul _ _ | .gf8Inv _ => true
  | .gf128Double | .gf128Triple | .cbcEnc | .cbcDec | .pmac | .ocbEnc | .ocbDec => true

end Sys2Proof
end

