-- ==== Sys2Proof/Decode.lean ====
section
/-! DEFINITION. The decoder of command words, total on 32-bit words and rejecting by name (30_encoding.md R57 to R61),
and after it the encoder, from the same opcode map. -/

namespace Sys2Proof

/-- Why a word is ILLEGAL_COMMAND: the two cases of 30_encoding.md R60. -/
inductive DecodeError
  /-- R60 (a): no row of the opcode map has this OP. -/
  | unassignedOp (op : Byte)
  /-- R60 (b): a field that the command does not use is not zero. -/
  | nonzeroField (op : Byte)
  deriving DecidableEq, Repr

/-- The fields of a command word (30_encoding.md R57). -/
def fieldsOf (w : Word) : Cmd32 :=
  { op := w.extractLsb' 0 8, a := w.extractLsb' 8 8, b := w.extractLsb' 16 8, z := w.extractLsb' 24 8 }

/-- The command word with the given fields (30_encoding.md R57). -/
def wordOfFields (c : Cmd32) : Word := c.z ++ c.b ++ c.a ++ c.op

/-- A command without operands: A, B and Z must be zero (30_encoding.md R60). -/
def decodeNone (c : Cmd32) (i : Instr) : Except DecodeError Instr :=
  if c.a = 0 ∧ c.b = 0 ∧ c.z = 0 then .ok i else .error (.nonzeroField c.op)

/-- A command that uses A alone: B and Z must be zero (30_encoding.md R60). -/
def decodeA (c : Cmd32) (i : Byte → Instr) : Except DecodeError Instr :=
  if c.b = 0 ∧ c.z = 0 then .ok (i c.a) else .error (.nonzeroField c.op)

/-- A command that uses A and B: Z must be zero (30_encoding.md R60). -/
def decodeAB (c : Cmd32) (i : Byte → Byte → Instr) : Except DecodeError Instr :=
  if c.z = 0 then .ok (i c.a c.b) else .error (.nonzeroField c.op)

/-- The decoder on fields: OP first, then the fields the command does not use (30_encoding.md R57, R59, R60). -/
def decodeFields (c : Cmd32) : Except DecodeError Instr :=
  match c.op.toNat with
  | 0x00 => decodeNone c .nop
  | 0x01 => decodeNone c .zeroize
  | 0x02 => decodeNone c .keyexp
  | 0x03 => decodeNone c .encBlock
  | 0x04 => decodeNone c .decBlock
  | 0x10 => decodeNone c .subBytes
  | 0x11 => decodeNone c .invSubBytes
  | 0x12 => decodeNone c .shiftRows
  | 0x13 => decodeNone c .invShiftRows
  | 0x14 => decodeNone c .mixColumns
  | 0x15 => decodeNone c .invMixColumns
  | 0x16 => decodeA c .addRoundKey
  | 0x20 => decodeA c .sbox
  | 0x21 => decodeA c .invSbox
  | 0x22 => decodeAB c .gf8Mul
  | 0x23 => decodeA c .gf8Inv
  | 0x28 => decodeNone c .gf128Double
  | 0x29 => decodeNone c .gf128Triple
  | 0x30 => decodeNone c .cbcEnc
  | 0x31 => decodeNone c .cbcDec
  | 0x38 => decodeNone c .pmac
  | 0x39 => decodeNone c .ocbEnc
  | 0x3A => decodeNone c .ocbDec
  | _    => .error (.unassignedOp c.op)

/-- `decode(w)` of 30_encoding.md R61. -/
def decode (w : Word) : Except DecodeError Instr := decodeFields (fieldsOf w)

/-- The fields of a command, from the opcode map (30_encoding.md R59): `OP | A << 8 | B << 16`, Z = 0. -/
def encodeFields : Instr → Cmd32
  | .nop           => ⟨0x00, 0, 0, 0⟩
  | .zeroize       => ⟨0x01, 0, 0, 0⟩
  | .keyexp        => ⟨0x02, 0, 0, 0⟩
  | .encBlock      => ⟨0x03, 0, 0, 0⟩
  | .decBlock      => ⟨0x04, 0, 0, 0⟩
  | .subBytes      => ⟨0x10, 0, 0, 0⟩
  | .invSubBytes   => ⟨0x11, 0, 0, 0⟩
  | .shiftRows     => ⟨0x12, 0, 0, 0⟩
  | .invShiftRows  => ⟨0x13, 0, 0, 0⟩
  | .mixColumns    => ⟨0x14, 0, 0, 0⟩
  | .invMixColumns => ⟨0x15, 0, 0, 0⟩
  | .addRoundKey r => ⟨0x16, r, 0, 0⟩
  | .sbox x        => ⟨0x20, x, 0, 0⟩
  | .invSbox x     => ⟨0x21, x, 0, 0⟩
  | .gf8Mul x y    => ⟨0x22, x, y, 0⟩
  | .gf8Inv x      => ⟨0x23, x, 0, 0⟩
  | .gf128Double   => ⟨0x28, 0, 0, 0⟩
  | .gf128Triple   => ⟨0x29, 0, 0, 0⟩
  | .cbcEnc        => ⟨0x30, 0, 0, 0⟩
  | .cbcDec        => ⟨0x31, 0, 0, 0⟩
  | .pmac          => ⟨0x38, 0, 0, 0⟩
  | .ocbEnc        => ⟨0x39, 0, 0, 0⟩
  | .ocbDec        => ⟨0x3A, 0, 0, 0⟩

/-- The word of a command, as a host writes it to CMD (30_encoding.md R59, R62). -/
def encode (i : Instr) : Word := wordOfFields (encodeFields i)

/-- One row of spec/opcode_table.json: the word matches the row when its bits under `mask` are `value`
(30_encoding.md R61). -/
structure TableRow where
  mask  : Word
  value : Word
  deriving DecidableEq, Repr

/-- The rows of spec/opcode_table.json, in its order, as their "mask" and "match" columns stand there. -/
def tableRows : List TableRow :=
  [⟨0xFFFFFFFF, 0x00000000⟩, ⟨0xFFFFFFFF, 0x00000001⟩, ⟨0xFFFFFFFF, 0x00000002⟩, ⟨0xFFFFFFFF, 0x00000003⟩,
   ⟨0xFFFFFFFF, 0x00000004⟩] ++
  [⟨0xFFFFFFFF, 0x00000010⟩, ⟨0xFFFFFFFF, 0x00000011⟩, ⟨0xFFFFFFFF, 0x00000012⟩, ⟨0xFFFFFFFF, 0x00000013⟩,
   ⟨0xFFFFFFFF, 0x00000014⟩, ⟨0xFFFFFFFF, 0x00000015⟩, ⟨0xFFFF00FF, 0x00000016⟩] ++
  [⟨0xFFFF00FF, 0x00000020⟩, ⟨0xFFFF00FF, 0x00000021⟩, ⟨0xFF0000FF, 0x00000022⟩, ⟨0xFFFF00FF, 0x00000023⟩] ++
  [⟨0xFFFFFFFF, 0x00000028⟩, ⟨0xFFFFFFFF, 0x00000029⟩] ++
  [⟨0xFFFFFFFF, 0x00000030⟩, ⟨0xFFFFFFFF, 0x00000031⟩] ++
  [⟨0xFFFFFFFF, 0x00000038⟩, ⟨0xFFFFFFFF, 0x00000039⟩, ⟨0xFFFFFFFF, 0x0000003A⟩]

/-- The word matches a row of the opcode table: `(w & mask) = match` (30_encoding.md R61). -/
def TableRow.matches (row : TableRow) (w : Word) : Bool := w &&& row.mask == row.value

/-- What the decoder reads from an opcode-table word of `nbits` bits; bit 0 of the table is bit 0 of the command word
(30_encoding.md R57). -/
def decodeTableWord (nbits w : Nat) : Option Instr :=
  match decode (BitVec.ofNat 32 (w % 2 ^ nbits)) with
  | .ok i    => some i
  | .error _ => none

end Sys2Proof
end

