-- ==== Sys2Proof/Machine/KeySchedule.lean ====
section
/-! DEFINITION. The key schedule and KEYEXP (42_key_schedule.md). -/

namespace Sys2Proof.Machine

/-- RotWord: one byte toward index 0 (42_key_schedule.md R85). -/
def rotWord (t : SchedWord) : SchedWord := ⟨t.b1, t.b2, t.b3, t.b0⟩

/-- SubWord: the S-box on each byte (42_key_schedule.md R85). -/
def subWord (t : SchedWord) : SchedWord := ⟨sboxOf t.b0, sboxOf t.b1, sboxOf t.b2, sboxOf t.b3⟩

/-- XOR of two words. -/
def xorWord (t u : SchedWord) : SchedWord := ⟨t.b0 ^^^ u.b0, t.b1 ^^^ u.b1, t.b2 ^^^ u.b2, t.b3 ^^^ u.b3⟩

/-- XOR with Rcon, the word (rc, 0, 0, 0) (42_key_schedule.md R85, R86). -/
def xorRcon (t : SchedWord) (rc : Byte) : SchedWord := { t with b0 := t.b0 ^^^ rc }

/-- `temp` at index i, computed from the word before (42_key_schedule.md R87): RotWord, then SubWord, then the Rcon XOR
at a multiple of Nk; SubWord alone for Nk > 6 at i mod Nk = 4. -/
def scheduleTemp (nk i : Nat) (rc : Byte) (prev : SchedWord) : SchedWord :=
  if i % nk = 0 then xorRcon (subWord (rotWord prev)) rc
  else if 6 < nk ∧ i % nk = 4 then subWord prev
  else prev

/-- Rcon after index i: doubled when it was used (42_key_schedule.md R86). -/
def nextRcon (nk i : Nat) (rc : Byte) : Byte := if i % nk = 0 then xtime rc else rc

/-- The loop of 42_key_schedule.md R87: the first argument after Nk is how many words are still to come, `ws` the words
w[0 .. i-1] so far. -/
def expandLoop (nk : Nat) : Nat → Byte → List SchedWord → List SchedWord
  | 0, _, ws      => ws
  | n + 1, rc, ws =>
    expandLoop nk n (nextRcon nk ws.length rc)
      (ws ++ [xorWord (ws.getD (ws.length - nk) ⟨0, 0, 0, 0⟩)
        (scheduleTemp nk ws.length rc (ws.getD (ws.length - 1) ⟨0, 0, 0, 0⟩))])

/-- Word i of the key, `key[4i .. 4i+4]`. -/
def keyWord (key : Bytes) (i : Nat) : SchedWord :=
  ⟨key.getD (4 * i) 0, key.getD (4 * i + 1) 0, key.getD (4 * i + 2) 0, key.getD (4 * i + 3) 0⟩

/-- `expand_key(key, Nb)` with Nk = |key| / 4 (42_key_schedule.md R87). -/
def expandKey (key : Bytes) (nb : Nat) : List SchedWord :=
  let nk := key.length / 4
  expandLoop nk (scheduleLength nb nk - nk) 0x01 ((List.range nk).map (keyWord key))

/-- W after KEYEXP: the schedule, and zero words beyond it (42_key_schedule.md R89). -/
def scheduleOf (key : Vector Byte 32) (nb nk : Nat) : Vector SchedWord 120 :=
  let ws := expandKey (firstBytes key (4 * nk)) nb
  Vector.ofFn fun i => ws.getD i.val ⟨0, 0, 0, 0⟩

/-- What KEYEXP writes (42_key_schedule.md R89). -/
def State.loadSchedule (s : State) : State :=
  { s with w := scheduleOf s.key s.nb.toNat s.nk.toNat, snb := s.nb, snk := s.nk, keyValid := true }

/-- KEYEXP (42_key_schedule.md R89). -/
def execKeyexp (s : State) : Host.Outcome State Fault Refusal :=
  runTotal [s.keyLengthCheck, s.blockSizeCheck] State.loadSchedule s

end Sys2Proof.Machine
end

