-- ==== Sys2Proof/Machine/Rounds.lean ====
section
/-! DEFINITION. The round transforms, the block cipher E and its inverse D, and the nine block commands
(43_cipher_rounds.md). -/

namespace Sys2Proof.Machine

/-! ### Round transforms -/

/-- SubBytes (43_cipher_rounds.md R90). -/
def subBytes (st : Bytes) : Bytes := st.map sboxOf

/-- InvSubBytes (43_cipher_rounds.md R90). -/
def invSubBytes (st : Bytes) : Bytes := st.map invSboxOf

/-- The offset C_r of row r: 0, 1, 2, 3, and for Nb = 8 0, 1, 3, 4 (43_cipher_rounds.md R91). -/
def shiftOffset (nb r : Nat) : Nat := if nb = 8 ∧ 2 ≤ r then r + 1 else r

/-- ShiftRows: row r rotates left by C_r (43_cipher_rounds.md R91). -/
def shiftRows (nb : Nat) (st : Bytes) : Bytes := matrix nb fun r c => cell st r ((c + shiftOffset nb r) % nb)

/-- InvShiftRows: row r rotates right by C_r (43_cipher_rounds.md R92). -/
def invShiftRows (nb : Nat) (st : Bytes) : Bytes :=
  matrix nb fun r c => cell st r ((c + (nb - shiftOffset nb r)) % nb)

/-- MixColumns: row r of column c is 2·a_r + 3·a_(r+1) + a_(r+2) + a_(r+3), rows counted mod 4
(43_cipher_rounds.md R93). -/
def mixColumns (nb : Nat) (st : Bytes) : Bytes := matrix nb fun r c =>
  gfMul 2 (cell st r c) ^^^ gfMul 3 (cell st ((r + 1) % 4) c) ^^^
    gfMul 1 (cell st ((r + 2) % 4) c) ^^^ gfMul 1 (cell st ((r + 3) % 4) c)

/-- InvMixColumns: row r of column c is 14·a_r + 11·a_(r+1) + 13·a_(r+2) + 9·a_(r+3), rows counted mod 4
(43_cipher_rounds.md R94). -/
def invMixColumns (nb : Nat) (st : Bytes) : Bytes := matrix nb fun r c =>
  gfMul 14 (cell st r c) ^^^ gfMul 11 (cell st ((r + 1) % 4) c) ^^^
    gfMul 13 (cell st ((r + 2) % 4) c) ^^^ gfMul 9 (cell st ((r + 3) % 4) c)

/-- AddRoundKey with round index k: byte r of word W[k·Nb + c] meets row r of column c (43_cipher_rounds.md R95). -/
def addRoundKey (w : Vector SchedWord 120) (nb k : Nat) (st : Bytes) : Bytes :=
  matrix nb fun r c => cell st r c ^^^ (scheduleWord w (k * nb + c)).byte r

/-! ### The cipher -/

/-- One middle round of E (43_cipher_rounds.md R96). -/
def encRound (w : Vector SchedWord 120) (nb : Nat) (st : Bytes) (r : Nat) : Bytes :=
  addRoundKey w nb r (mixColumns nb (shiftRows nb (subBytes st)))

/-- One middle round of D (43_cipher_rounds.md R97). -/
def decRound (w : Vector SchedWord 120) (nb : Nat) (st : Bytes) (r : Nat) : Bytes :=
  invSubBytes (invShiftRows nb (invMixColumns nb (addRoundKey w nb r st)))

/-- E(b) under the schedule w with block size nb and nr rounds (43_cipher_rounds.md R96). -/
def encryptBlock (w : Vector SchedWord 120) (nb nr : Nat) (b : Bytes) : Bytes :=
  addRoundKey w nb nr (shiftRows nb (subBytes
    ((List.range' 1 (nr - 1)).foldl (encRound w nb) (addRoundKey w nb 0 b))))

/-- D(b) under the schedule w with block size nb and nr rounds (43_cipher_rounds.md R97). -/
def decryptBlock (w : Vector SchedWord 120) (nb nr : Nat) (b : Bytes) : Bytes :=
  addRoundKey w nb 0
    ((List.range' 1 (nr - 1)).reverse.foldl (decRound w nb)
      (invSubBytes (invShiftRows nb (addRoundKey w nb nr b))))

/-- E under the schedule in W (43_cipher_rounds.md R96). -/
def State.encrypt (s : State) (b : Bytes) : Bytes := encryptBlock s.w s.schedNb s.schedNr b

/-- D under the schedule in W (43_cipher_rounds.md R97). -/
def State.decrypt (s : State) (b : Bytes) : Bytes := decryptBlock s.w s.schedNb s.schedNr b

/-! ### The block commands

`BLK[0..4·Nb] <- f(BLK[0..4·Nb])`; the bytes beyond stay (10_state.md R29). -/

/-- BLK[0..4·Nb] is replaced by its image. -/
def State.mapBlk (s : State) (nb : Nat) (f : Bytes → Bytes) : State := s.storeBlk (f (firstBytes s.blk (4 * nb)))

/-- SUB_BYTES (43_cipher_rounds.md R100). -/
def execSubBytes (s : State) : Host.Outcome State Fault Refusal :=
  runTotal [s.blockSizeCheck] (fun t => t.mapBlk t.nb.toNat subBytes) s

/-- INV_SUB_BYTES (43_cipher_rounds.md R101). -/
def execInvSubBytes (s : State) : Host.Outcome State Fault Refusal :=
  runTotal [s.blockSizeCheck] (fun t => t.mapBlk t.nb.toNat invSubBytes) s

/-- SHIFT_ROWS (43_cipher_rounds.md R102). -/
def execShiftRows (s : State) : Host.Outcome State Fault Refusal :=
  runTotal [s.blockSizeCheck] (fun t => t.mapBlk t.nb.toNat (shiftRows t.nb.toNat)) s

/-- INV_SHIFT_ROWS (43_cipher_rounds.md R103). -/
def execInvShiftRows (s : State) : Host.Outcome State Fault Refusal :=
  runTotal [s.blockSizeCheck] (fun t => t.mapBlk t.nb.toNat (invShiftRows t.nb.toNat)) s

/-- MIX_COLUMNS (43_cipher_rounds.md R104). -/
def execMixColumns (s : State) : Host.Outcome State Fault Refusal :=
  runTotal [s.blockSizeCheck] (fun t => t.mapBlk t.nb.toNat (mixColumns t.nb.toNat)) s

/-- INV_MIX_COLUMNS (43_cipher_rounds.md R105). -/
def execInvMixColumns (s : State) : Host.Outcome State Fault Refusal :=
  runTotal [s.blockSizeCheck] (fun t => t.mapBlk t.nb.toNat (invMixColumns t.nb.toNat)) s

/-- ADD_ROUND_KEY r (43_cipher_rounds.md R106): the checks read CFG.NB, the effect the schedule's own Nb. -/
def execAddRoundKey (r : Byte) (s : State) : Host.Outcome State Fault Refusal :=
  runTotal [s.blockSizeCheck, s.keyCheck, s.roundCheck r]
    (fun t => t.mapBlk t.schedNb (addRoundKey t.w t.schedNb r.toNat)) s

/-- ENC_BLOCK (43_cipher_rounds.md R107). -/
def execEncBlock (s : State) : Host.Outcome State Fault Refusal :=
  runTotal [s.blockSizeCheck, s.keyCheck] (fun t => t.mapBlk t.schedNb t.encrypt) s

/-- DEC_BLOCK (43_cipher_rounds.md R108). -/
def execDecBlock (s : State) : Host.Outcome State Fault Refusal :=
  runTotal [s.blockSizeCheck, s.keyCheck] (fun t => t.mapBlk t.schedNb t.decrypt) s

end Sys2Proof.Machine
end

