-- ==== Sys2Proof/Machine/Cbc.lean ====
section
/-! DEFINITION. The CBC mode controller: CBC_ENC and CBC_DEC (44_cbc.md). The block functions E and D are arguments of
the mode functions. -/

namespace Sys2Proof.Machine

/-- The string zero-padded to a block boundary (44_cbc.md R109). -/
def zeroPad (bs : Nat) (p : Bytes) : Bytes := p ++ zeroBytes (ceilDiv p.length bs * bs - p.length)

/-- The loop of cbc_encrypt over the blocks of the padded plaintext (44_cbc.md R109). -/
def cbcEncryptBlocks (E : Bytes → Bytes) : Bytes → List Bytes → Bytes
  | _, []        => []
  | prev, p :: ps => E (xorBytes p prev) ++ cbcEncryptBlocks E (E (xorBytes p prev)) ps

/-- `cbc_encrypt(P, iv)` with block length bs (44_cbc.md R109). -/
def cbcEncrypt (E : Bytes → Bytes) (bs : Nat) (p iv : Bytes) : Bytes :=
  cbcEncryptBlocks E iv (splitBlocks bs (ceilDiv p.length bs) (zeroPad bs p))

/-- The loop of cbc_decrypt over the ciphertext blocks (44_cbc.md R110). -/
def cbcDecryptBlocks (D : Bytes → Bytes) : Bytes → List Bytes → Bytes
  | _, []        => []
  | prev, c :: cs => xorBytes (D c) prev ++ cbcDecryptBlocks D c cs

/-- `cbc_decrypt(C, iv)` with block length bs (44_cbc.md R110). -/
def cbcDecrypt (D : Bytes → Bytes) (bs : Nat) (c iv : Bytes) : Bytes :=
  cbcDecryptBlocks D iv (splitBlocks bs (c.length / bs) c)

/-- The block length of the schedule's geometry, 4·SNB (44_cbc.md). -/
def State.blockBytes (s : State) : Nat := 4 * s.schedNb

/-- The ciphertext CBC_ENC writes: a function of the whole input as it was at acceptance (20_memory.md R51). -/
def State.cbcCiphertext (s : State) : Bytes :=
  cbcEncrypt s.encrypt s.blockBytes (s.msgPart s.msgLen.toNat) (firstBytes s.iv s.blockBytes)

/-- The plaintext CBC_DEC writes. -/
def State.cbcPlaintext (s : State) : Bytes :=
  cbcDecrypt s.decrypt s.blockBytes (s.msgPart s.msgLen.toNat) (firstBytes s.iv s.blockBytes)

/-- What CBC_ENC writes: the ciphertext over MSG, and its length into MSG_LEN (44_cbc.md R112). -/
def State.cbcEncrypted (s : State) : State :=
  (s.storeMsg s.cbcCiphertext).storeMsgLen (ceilDiv s.msgLen.toNat s.blockBytes * s.blockBytes)

/-- CBC_ENC (44_cbc.md R112): in place, and MSG_LEN becomes the padded length. -/
def execCbcEnc (s : State) : Host.Outcome State Fault Refusal :=
  runTotal [s.blockSizeCheck, s.keyCheck, s.paddedLengthCheck]
    State.cbcEncrypted s

/-- CBC_DEC (44_cbc.md R113): in place, no padding is stripped. -/
def execCbcDec (s : State) : Host.Outcome State Fault Refusal :=
  runTotal [s.blockSizeCheck, s.keyCheck, s.msgLengthCheck, s.wholeBlocksCheck]
    (fun t => t.storeMsg t.cbcPlaintext) s

end Sys2Proof.Machine
end

