-- ==== Sys2Proof/Machine/Control.lean ====
section
/-! DEFINITION. The control commands NOP and ZEROIZE (40_control.md R69, R70). -/

namespace Sys2Proof.Machine

/-- NOP (40_control.md R69): nothing but its completion. -/
def execNop (s : State) : Host.Outcome State Fault Refusal := runTotal [] id s

/-- What ZEROIZE writes (40_control.md R70): keys, schedule, data registers, lengths and both buffers become zero;
ID, CTRL, CFG, CMD and OVR stay. -/
def State.zeroized (s : State) : State :=
  { s with
    key      := Vector.replicate 32 0
    w        := Vector.replicate 120 ⟨0, 0, 0, 0⟩
    snb      := 0
    snk      := 0
    keyValid := false
    blk      := Vector.replicate 32 0
    iv       := Vector.replicate 32 0
    tag      := Vector.replicate 16 0
    result   := 0
    msgLen   := 0
    adLen    := 0
    mem      := [] }

/-- ZEROIZE (40_control.md R70). -/
def execZeroize (s : State) : Host.Outcome State Fault Refusal := runTotal [] State.zeroized s

end Sys2Proof.Machine
end

