-- ==== Sys2Proof/Machine/Gf128.lean ====
section
/-! DEFINITION. The GF(2^128) doubler and tripler and their commands (45_gf128.md). -/

namespace Sys2Proof.Machine

/-- `double(x)` for a 16-byte block: the big-endian polynomial times α, 0x87 into byte 15 when the top bit was 1
(45_gf128.md R115). -/
def gfDouble (x : Bytes) : Bytes := (List.range 16).map fun i =>
  if i < 15 then (x.getD i 0 <<< 1) ||| (x.getD (i + 1) 0 >>> 7)
  else (x.getD 15 0 <<< 1) ^^^ (if (x.getD 0 0).getLsbD 7 then 0x87 else 0)

/-- `triple(x) = double(x) XOR x` (45_gf128.md R116). -/
def gfTriple (x : Bytes) : Bytes := xorBytes (gfDouble x) x

/-- GF128_DOUBLE (45_gf128.md R118): on BLK[0..16] whatever CFG says. -/
def execGf128Double (s : State) : Host.Outcome State Fault Refusal := runTotal [] (fun t => t.mapBlk 4 gfDouble) s

/-- GF128_TRIPLE (45_gf128.md R119): on BLK[0..16] whatever CFG says. -/
def execGf128Triple (s : State) : Host.Outcome State Fault Refusal := runTotal [] (fun t => t.mapBlk 4 gfTriple) s

end Sys2Proof.Machine
end

