-- ==== Sys2Proof/Machine/Ocb.lean ====
section
/-! DEFINITION. PMAC and the OCB2 engine: PMAC, OCB_ENC and OCB_DEC (46_ocb2_pmac.md). The block is 16 bytes; E and D
are arguments of the mode functions. -/

namespace Sys2Proof.Machine

/-! ### PMAC -/

/-- The running offset L and checksum of PMAC (46_ocb2_pmac.md R121). -/
structure PmacAcc where
  offset   : Bytes
  checksum : Bytes
  deriving DecidableEq, Repr

/-- One block before the last: L doubles, E(L ⊕ H[i]) joins the checksum (46_ocb2_pmac.md R121). -/
def pmacStep (E : Bytes → Bytes) (acc : PmacAcc) (h : Bytes) : PmacAcc :=
  { offset   := gfDouble acc.offset
    checksum := xorBytes acc.checksum (E (xorBytes (gfDouble acc.offset) h)) }

/-- The last block: full, one triple and the block itself; short, two triples and the block with 0x80 and zeros
(46_ocb2_pmac.md R121). -/
def pmacLast (E : Bytes → Bytes) (acc : PmacAcc) (h : Bytes) : Bytes :=
  if h.length = 16 then
    E (xorBytes (gfTriple (gfDouble acc.offset)) (xorBytes acc.checksum h))
  else
    E (xorBytes (gfTriple (gfTriple (gfDouble acc.offset)))
      (xorBytes acc.checksum (h ++ [0x80] ++ zeroBytes (15 - h.length))))

/-- `pmac(H)` for |H| ≥ 1 (46_ocb2_pmac.md R121). -/
def pmacOf (E : Bytes → Bytes) (header : Bytes) : Bytes :=
  let full := ceilDiv header.length 16 - 1
  pmacLast E
    ((splitBlocks 16 full header).foldl (pmacStep E) ⟨gfTriple (gfTriple (E (zeroBytes 16))), zeroBytes 16⟩)
    (header.drop (16 * full))

/-! ### OCB2 -/

/-- The running offset L, checksum and output of OCB2 (46_ocb2_pmac.md R122, R123). -/
structure OcbAcc where
  offset   : Bytes
  checksum : Bytes
  out      : Bytes
  deriving DecidableEq, Repr

/-- One full block of ocb_encrypt before the last (46_ocb2_pmac.md R122). -/
def ocbEncStep (E : Bytes → Bytes) (acc : OcbAcc) (p : Bytes) : OcbAcc :=
  { offset   := gfDouble acc.offset
    checksum := xorBytes acc.checksum p
    out      := acc.out ++ xorBytes (gfDouble acc.offset) (E (xorBytes (gfDouble acc.offset) p)) }

/-- One full block of ocb_decrypt before the last (46_ocb2_pmac.md R123). -/
def ocbDecStep (D : Bytes → Bytes) (acc : OcbAcc) (c : Bytes) : OcbAcc :=
  { offset   := gfDouble acc.offset
    checksum := xorBytes acc.checksum (xorBytes (gfDouble acc.offset) (D (xorBytes (gfDouble acc.offset) c)))
    out      := acc.out ++ xorBytes (gfDouble acc.offset) (D (xorBytes (gfDouble acc.offset) c)) }

/-- The pad of the last block: E(L ⊕ num2str(8·b, 16)) with L the doubled offset (46_ocb2_pmac.md R122). -/
def ocbPad (E : Bytes → Bytes) (acc : OcbAcc) (b : Nat) : Bytes :=
  E (xorBytes (gfDouble acc.offset) (num2str (8 * b) 16))

/-- The tag from the offset and checksum before the last block and the last plaintext block
(46_ocb2_pmac.md R122): the checksum takes `Plast || pad[b .. 16]`, L is tripled, and a non-empty header adds its pmac.
-/
def ocbTag (E : Bytes → Bytes) (acc : OcbAcc) (last pad header : Bytes) : Bytes :=
  let tag := E (xorBytes (xorBytes acc.checksum (last ++ pad.drop last.length)) (gfTriple (gfDouble acc.offset)))
  if header.length = 0 then tag else xorBytes tag (pmacOf E header)

/-- m − 1, the number of blocks before the last: m = max(1, ⌈|P|/16⌉) (46_ocb2_pmac.md R122). -/
def ocbFullBlocks (p : Bytes) : Nat := max 1 (ceilDiv p.length 16) - 1

/-- `ocb_encrypt(H, P, iv)`: the ciphertext and the tag (46_ocb2_pmac.md R122). -/
def ocbEncrypt (E : Bytes → Bytes) (header p iv : Bytes) : Bytes × Bytes :=
  let full := ocbFullBlocks p
  let acc  := (splitBlocks 16 full p).foldl (ocbEncStep E) ⟨E iv, zeroBytes 16, []⟩
  let last := p.drop (16 * full)
  let pad  := ocbPad E acc last.length
  (acc.out ++ xorBytes last (pad.take last.length), ocbTag E acc last pad header)

/-- `ocb_decrypt(H, C, iv)`: the recovered plaintext and the recomputed tag (46_ocb2_pmac.md R123). -/
def ocbDecrypt (E D : Bytes → Bytes) (header c iv : Bytes) : Bytes × Bytes :=
  let full := ocbFullBlocks c
  let acc  := (splitBlocks 16 full c).foldl (ocbDecStep D) ⟨E iv, zeroBytes 16, []⟩
  let rest := c.drop (16 * full)
  let pad  := ocbPad E acc rest.length
  let last := xorBytes rest (pad.take rest.length)
  (acc.out ++ last, ocbTag E acc last pad header)

/-! ### The commands -/

/-- The header, AD[0..AD_LEN] (46_ocb2_pmac.md R125). -/
def State.header (s : State) : Bytes := s.adPart s.adLen.toNat

/-- What OCB_ENC computes from the state at acceptance (46_ocb2_pmac.md R126). -/
def State.ocbSealed (s : State) : Bytes × Bytes :=
  ocbEncrypt s.encrypt s.header (s.msgPart s.msgLen.toNat) (firstBytes s.iv 16)

/-- What OCB_DEC computes from the state at acceptance (46_ocb2_pmac.md R127). -/
def State.ocbOpened (s : State) : Bytes × Bytes :=
  ocbDecrypt s.encrypt s.decrypt s.header (s.msgPart s.msgLen.toNat) (firstBytes s.iv 16)

/-- PMAC (46_ocb2_pmac.md R125). -/
def execPmac (s : State) : Host.Outcome State Fault Refusal :=
  runTotal [s.ocbBlockCheck, s.keyCheck, s.adLengthCheck, s.emptyAdCheck]
    (fun t => t.storeTag (pmacOf t.encrypt t.header)) s

/-- OCB_ENC (46_ocb2_pmac.md R126). -/
def execOcbEnc (s : State) : Host.Outcome State Fault Refusal :=
  runTotal [s.ocbBlockCheck, s.keyCheck, s.msgLengthCheck, s.adLengthCheck]
    (fun t => (t.storeMsg t.ocbSealed.1).storeTag t.ocbSealed.2) s

/-- OCB_DEC (46_ocb2_pmac.md R127): MSG takes the plaintext only when the recomputed tag equals all 16 bytes of TAG;
otherwise nothing is written and the command ends with AUTHENTICATION_FAILED. -/
def execOcbDec (s : State) : Host.Outcome State Fault Refusal :=
  runCommand [s.ocbBlockCheck, s.keyCheck, s.msgLengthCheck, s.adLengthCheck]
    (fun t =>
      if t.ocbOpened.2 = t.tag.toList then (t.storeMsg t.ocbOpened.1, .noError)
      else (t, .authenticationFailed)) s

end Sys2Proof.Machine
end

