-- ==== Sys2Proof/Machine/Dispatch.lean ====
section
/-! DEFINITION. The meaning of a decoded command: one arm per constructor of Instr (40_control.md R65, 30_encoding.md
R59). -/

namespace Sys2Proof.Machine

/-- The completion of a decoded command (40_control.md R65). -/
def exec (i : Instr) (s : State) : Host.Outcome State Fault Refusal :=
  match i with
  | .nop => Sys2Proof.Machine.execNop s
  | .zeroize => Sys2Proof.Machine.execZeroize s
  | .keyexp => Sys2Proof.Machine.execKeyexp s
  | .encBlock => Sys2Proof.Machine.execEncBlock s
  | .decBlock => Sys2Proof.Machine.execDecBlock s
  | .subBytes => Sys2Proof.Machine.execSubBytes s
  | .invSubBytes => Sys2Proof.Machine.execInvSubBytes s
  | .shiftRows => Sys2Proof.Machine.execShiftRows s
  | .invShiftRows => Sys2Proof.Machine.execInvShiftRows s
  | .mixColumns => Sys2Proof.Machine.execMixColumns s
  | .invMixColumns => Sys2Proof.Machine.execInvMixColumns s
  | .addRoundKey r => Sys2Proof.Machine.execAddRoundKey r s
  | .sbox x => Sys2Proof.Machine.execSbox x s
  | .invSbox x => Sys2Proof.Machine.execInvSbox x s
  | .gf8Mul x y => Sys2Proof.Machine.execGf8Mul x y s
  | .gf8Inv x => Sys2Proof.Machine.execGf8Inv x s
  | .gf128Double => Sys2Proof.Machine.execGf128Double s
  | .gf128Triple => Sys2Proof.Machine.execGf128Triple s
  | .cbcEnc => Sys2Proof.Machine.execCbcEnc s
  | .cbcDec => Sys2Proof.Machine.execCbcDec s
  | .pmac => Sys2Proof.Machine.execPmac s
  | .ocbEnc => Sys2Proof.Machine.execOcbEnc s
  | .ocbDec => Sys2Proof.Machine.execOcbDec s

end Sys2Proof.Machine
end

