-- ==== Sys2Proof/Machine/Engine.lean ====
section
/-! DEFINITION. The two kinds of step: the engine's completion of what is pending (40_control.md R65,
70_reset_and_hazards.md R145) and one move of the outside world (20_memory.md R49, R52), and which of them comes next
(log 1, 2). -/

namespace Sys2Proof.Machine

/-- The completion of the pending command word (40_control.md R65): decode, then the command, or ILLEGAL_COMMAND
(30_encoding.md R60). -/
def completeCommand (w : Word) (s : State) : Host.Outcome State Fault Refusal :=
  match decode w with
  | .ok i    => exec i s
  | .error _ => .next (s.fail .illegalCommand)

/-- The engine's step: the completion it owes (10_state.md R36). -/
def engineStep (s : State) : Host.Outcome State Fault Refusal :=
  match s.pending with
  | .idle       => .next s
  | .resetClear => .next s.finishResetClear
  | .command w  => completeCommand w s

/-- No move of the outside world comes before the completion: there is none, or the host waits for BUSY = 0. -/
def State.outsideWaits (s : State) : Bool :=
  match s.inputs with
  | []             => true
  | .waitIdle :: _ => true
  | .access _ :: _ => false
  | .reset :: _    => false

/-- The engine moves next: something is pending, and its delay has run out or the outside world waits (log 2). -/
def State.engineTurn (s : State) : Bool := s.busy && (s.delay == 0 || s.outsideWaits)

/-- One move of the outside world (70_reset_and_hazards.md R154). -/
def State.perform (m : Move) (s : State) : State :=
  match m with
  | .access a => s.access a
  | .waitIdle => s
  | .reset    => s.applyReset

/-- The oldest outside move leaves the queue, and one move less is still performed before the completion (log 2). -/
def State.takeMove (rest : List Move) (s : State) : State := { s with inputs := rest, delay := s.delay - 1 }

/-- The outside world's step; with no move left an idle CORE stays as it is (60_exceptions.md R142). -/
def outsideStep (s : State) : Host.Outcome State Fault Refusal :=
  match s.inputs with
  | []        => .next s
  | m :: rest => .next ((s.takeMove rest).perform m)

/-- One step of the machine. -/
def nextStep (s : State) : Host.Outcome State Fault Refusal :=
  if s.engineTurn then engineStep s else outsideStep s

/-- The state with the command word `v` accepted and its completion due at once (log 9). -/
def State.issued (v : Word) (s : State) : State := { s.latch v with delay := 0 }

end Sys2Proof.Machine
end

