-- ==== Sys2Proof/Machine/Step.lean ====
section
/-! DEFINITION. The step of the machine, and the placing of a command word where the next step takes it (log 9). -/

namespace Sys2Proof.Machine

/-- One step: the completion the engine owes, or one move of the outside world (20_memory.md R43, R49). -/
def step (s : State) : Host.Outcome State Fault Refusal := nextStep s

/-- `s` with the opcode-table word accepted as CORE's command (CORE fetches nothing, 10_state.md R39; a command enters
as the data of an accepted write to CMD, 20_memory.md R55), so that the very next step completes it (log 9). -/
def State.withFetchWord (s : State) (nbits w : Nat) : State := s.issued (BitVec.ofNat 32 (w % 2 ^ nbits))

end Sys2Proof.Machine
end

