-- ==== Sys2Proof/Safety.lean ====
section
/-! DEFINITION. What counts as a safe state of CORE: the invariants that every step keeps, in the terms the claims use.
-/

namespace Sys2Proof.Machine

/-- The window offset of a byte of AD or of MSG (20_memory.md R47). -/
abbrev bufferOffset (p : Config.Params) (a : Nat) : Prop :=
  (0x2000 ≤ a ∧ a < 0x2000 + p.adBytes) ∨ (0x8000 ≤ a ∧ a < 0x8000 + p.msgBytes)

/-- The memory is in canonical form and lists bytes of MSG and AD alone (10_state.md R32, R33). -/
abbrev State.MemoryOk (s : State) : Prop := s.mem.wf ∧ ∀ c ∈ s.mem, bufferOffset s.params c.1

/-- While KEYVALID = 1, CFG is legal, SNB and SNK equal it, and W is the schedule of KEY for it (10_state.md R22, R35).
-/
abbrev State.ScheduleOk (s : State) : Prop :=
  s.keyValid = true →
    legalWords s.nb = true ∧ legalWords s.nk = true ∧ s.snb = s.nb ∧ s.snk = s.nk ∧
      s.w = scheduleOf s.key s.nb.toNat s.nk.toNat

/-- SNB and SNK are both 0 or both legal, and W holds 0 beyond the schedule of that geometry (10_state.md R34, R35). -/
abbrev State.GeometryOk (s : State) : Prop :=
  ((s.snb = 0 ∧ s.snk = 0) ∨ (legalWords s.snb = true ∧ legalWords s.snk = true)) ∧
    ∀ i < 120, scheduleLength s.snb.toNat s.snk.toNat ≤ i → scheduleWord s.w i = ⟨0, 0, 0, 0⟩

/-- What BUSY = 1 refers to (10_state.md R36, 40_control.md R64, 70_reset_and_hazards.md R145): a pending command is the
word that CMD reads, and DONE and ERRCODE are clear; while the reset-clear is pending they are clear too, CFG and CMD
hold their reset values, and everything ZEROIZE clears is clear. -/
abbrev State.EngineOk (s : State) : Prop :=
  (∀ v, s.pending = .command v → s.cmd = v ∧ s.done = false ∧ s.errCode = .noError) ∧
  (s.pending = .resetClear →
    s.done = false ∧ s.errCode = .noError ∧ s.nb = 4 ∧ s.nk = 4 ∧ s.cmd = 0 ∧ s.zeroized = s)

/-- A safe state: all four invariants. -/
abbrev State.Inv (s : State) : Prop := s.MemoryOk ∧ s.ScheduleOk ∧ s.GeometryOk ∧ s.EngineOk

end Sys2Proof.Machine
end

