-- ==== Sys2Proof/Certificates/Slice0/Obligations.lean ====
section
/-! DEFINITION. The statements for the provers. The terms they use stand first, in `Sys2Proof.Claim`: each is written from
the spec's own words, not from the model's definition of the same thing. -/

namespace Sys2Proof.Claim

open Sys2Proof Sys2Proof.Machine

/-- The aligned 32-bit read of a window offset, `MemRead(o, 4)` (20_memory.md R44). -/
def readAt (o : BitVec 16) : Access := ⟨o, 4, true, .read⟩

/-- The aligned 32-bit write of a window offset, `MemWrite(o, 4, v)` (20_memory.md R44). -/
def writeAt (o : BitVec 16) (v : Word) : Access := ⟨o, 4, true, .write v⟩

/-- The state after a completion with success that changed nothing else (40_control.md R65). -/
def succeeded (s : State) : State := { s with errCode := .noError, pending := .idle, done := true }

/-- The engine's step comes before any move of the outside world: its delay has run out, no move is left, or the host
waits for BUSY = 0 (log 2). -/
abbrev engineNext (s : State) : Prop := s.delay = 0 ∨ s.inputs = [] ∨ s.inputs.head? = some .waitIdle

/-- The legal values of Nb and Nk (00_scope.md R6). -/
abbrev legalSize (n : BitVec 4) : Prop := n = 4 ∨ n = 6 ∨ n = 8

/-- The first n bytes of a register, `REG[0..n]` (00_scope.md R9). -/
def regBytes {m : Nat} (reg : Vector Byte m) (n : Nat) : Bytes := (List.range n).map (byteOf reg)

/-- `MSG[0..n]` (10_state.md R32). -/
def msgBytes (s : State) (n : Nat) : Bytes := (List.range n).map fun a => s.mem.read (0x8000 + a)

/-- `AD[0..n]` (10_state.md R33). -/
def adBytes (s : State) (n : Nat) : Bytes := (List.range n).map fun a => s.mem.read (0x2000 + a)

/-- `s[a..b]` (00_scope.md R9). -/
def slice (s : Bytes) (a b : Nat) : Bytes := (s.drop a).take (b - a)

/-! ### The address map (20_memory.md R47) -/

/-- Offsets in the AD buffer. -/
abbrev inAd (p : Config.Params) (o : Nat) : Prop := 0x2000 ≤ o ∧ o < 0x2000 + p.adBytes

/-- Offsets in the MSG buffer. -/
abbrev inMsg (p : Config.Params) (o : Nat) : Prop := 0x8000 ≤ o ∧ o < 0x8000 + p.msgBytes

/-- RESULT, MSG_LEN, AD_LEN, KEY, BLK, IV, TAG, MSG and AD (10_state.md R42 (b)). -/
abbrev dataOffset (p : Config.Params) (o : Nat) : Prop :=
  o = 0x014 ∨ o = 0x018 ∨ o = 0x01C ∨ (0x040 ≤ o ∧ o < 0x0B0) ∨ inAd p o ∨ inMsg p o

/-- CFG, CMD, MSG_LEN, AD_LEN, KEY, BLK, IV, TAG, MSG and AD (10_state.md R42 (d)). -/
abbrev lockedOffset (p : Config.Params) (o : Nat) : Prop :=
  o = 0x008 ∨ o = 0x00C ∨ o = 0x018 ∨ o = 0x01C ∨ (0x040 ≤ o ∧ o < 0x0B0) ∨ inAd p o ∨ inMsg p o

/-- Reserved offsets and offsets beyond a buffer's size (20_memory.md R47, R48). -/
abbrev reservedOffset (p : Config.Params) (o : Nat) : Prop :=
  (0x028 ≤ o ∧ o < 0x040) ∨ (0x0B0 ≤ o ∧ o < 0x2000) ∨ (0x2000 + p.adBytes ≤ o ∧ o < 0x8000) ∨
    0x8000 + p.msgBytes ≤ o

/-- MSG_LEN, AD_LEN, BLK, IV, TAG, AD and MSG: what is written there reads back (10_state.md R24, R25, R29 to R33). -/
abbrev storageOffset (p : Config.Params) (o : Nat) : Prop :=
  o = 0x018 ∨ o = 0x01C ∨ (0x060 ≤ o ∧ o < 0x0B0) ∨ inAd p o ∨ inMsg p o

/-! ### Decoding -/

/-- The commands in the order of spec/opcode_table.json, as functions of the fields A and B (30_encoding.md R58, R59).
-/
def tableCommands : List (Byte → Byte → Instr) :=
  List.flatten
    [[fun _ _ => .nop, fun _ _ => .zeroize, fun _ _ => .keyexp, fun _ _ => .encBlock, fun _ _ => .decBlock],
     [fun _ _ => .subBytes, fun _ _ => .invSubBytes, fun _ _ => .shiftRows, fun _ _ => .invShiftRows,
      fun _ _ => .mixColumns, fun _ _ => .invMixColumns, fun a _ => .addRoundKey a],
     [fun a _ => .sbox a, fun a _ => .invSbox a, fun a b => .gf8Mul a b, fun a _ => .gf8Inv a],
     [fun _ _ => .gf128Double, fun _ _ => .gf128Triple, fun _ _ => .cbcEnc, fun _ _ => .cbcDec],
     [fun _ _ => .pmac, fun _ _ => .ocbEnc, fun _ _ => .ocbDec]]

/-! ### Checks (60_exceptions.md R129) -/

/-- The codes marked for a command in the table of 60_exceptions.md R129, code 1 apart (a decoded command has passed it,
30_encoding.md R60). -/
def marked : Instr → List ErrorCode
  | .nop | .zeroize => []
  | .keyexp => [.invalidKeyLength, .invalidBlockSize]
  | .subBytes | .invSubBytes | .shiftRows | .invShiftRows | .mixColumns | .invMixColumns => [.invalidBlockSize]
  | .addRoundKey _ => [.invalidBlockSize, .keyNotExpanded, .badRound]
  | .encBlock | .decBlock => [.invalidBlockSize, .keyNotExpanded]
  | .sbox _ | .invSbox _ | .gf8Mul _ _ | .gf8Inv _ | .gf128Double | .gf128Triple => []
  | .cbcEnc => [.invalidBlockSize, .keyNotExpanded, .lengthTooLarge]
  | .cbcDec => [.invalidBlockSize, .keyNotExpanded, .lengthTooLarge, .badCiphertextLength]
  | .pmac => [.invalidBlockSize, .keyNotExpanded, .lengthTooLarge, .emptyAd]
  | .ocbEnc => [.invalidBlockSize, .keyNotExpanded, .lengthTooLarge]
  | .ocbDec => [.invalidBlockSize, .keyNotExpanded, .lengthTooLarge, .authenticationFailed]

/-- Code 3: NB must be 4, 6 or 8, and 4 for PMAC and OCB. -/
def badBlockSize (s : State) : Instr → Prop
  | .pmac | .ocbEnc | .ocbDec => s.nb ≠ 4
  | _ => ¬ legalSize s.nb

/-- Code 6, per command. -/
def tooLong (s : State) : Instr → Prop
  | .cbcEnc => s.params.msgBytes <
      (s.msgLen.toNat / (4 * s.snb.toNat) + if s.msgLen.toNat % (4 * s.snb.toNat) = 0 then 0 else 1) *
        (4 * s.snb.toNat)
  | .cbcDec => s.params.msgBytes < s.msgLen.toNat
  | .pmac => s.params.adBytes < s.adLen.toNat
  | .ocbEnc | .ocbDec => s.params.msgBytes < s.msgLen.toNat ∨ s.params.adBytes < s.adLen.toNat
  | _ => False

/-- Code 5: the round index is above Nr = max(SNB, SNK) + 6. -/
def roundTooBig (s : State) : Instr → Prop
  | .addRoundKey r => max s.snb.toNat s.snk.toNat + 6 < r.toNat
  | _ => False

/-- The exact condition of each code (60_exceptions.md R129). -/
def condition (s : State) (i : Instr) : ErrorCode → Prop
  | .noError | .illegalCommand => False
  | .invalidKeyLength => ¬ legalSize s.nk
  | .invalidBlockSize => badBlockSize s i
  | .keyNotExpanded => s.keyValid = false
  | .badRound => roundTooBig s i
  | .lengthTooLarge => tooLong s i
  | .badCiphertextLength => s.msgLen.toNat % (4 * s.snb.toNat) ≠ 0
  | .emptyAd => s.adLen = 0
  | .authenticationFailed =>
    (ocbDecrypt s.encrypt s.decrypt (adBytes s s.adLen.toNat) (msgBytes s s.msgLen.toNat) (regBytes s.iv 16)).2 ≠
      regBytes s.tag 16

/-! ### What each command may write (10_state.md R23 to R35) -/

def writesResult : Instr → Bool
  | .sbox _ | .invSbox _ | .gf8Mul _ _ | .gf8Inv _ | .zeroize => true
  | _ => false

def writesBlk : Instr → Bool
  | .encBlock | .decBlock | .subBytes | .invSubBytes | .shiftRows | .invShiftRows | .mixColumns | .invMixColumns => true
  | .addRoundKey _ | .gf128Double | .gf128Triple | .zeroize => true
  | _ => false

def writesTag : Instr → Bool
  | .pmac | .ocbEnc | .zeroize => true
  | _ => false

def writesMsg : Instr → Bool
  | .cbcEnc | .cbcDec | .ocbEnc | .ocbDec | .zeroize => true
  | _ => false

def writesSchedule : Instr → Bool
  | .keyexp | .zeroize => true
  | _ => false

def writesMsgLen : Instr → Bool
  | .cbcEnc | .zeroize => true
  | _ => false

/-! ### The cipher -/

/-- The offsets C_0 … C_3 of 43_cipher_rounds.md R91. -/
def rowOffset (nb r : Nat) : Nat := (if nb = 8 then [0, 1, 3, 4] else [0, 1, 2, 3]).getD r 0

/-- rc_k, the k-th round constant: rc_1 = 0x01 and rc_(k+1) = xtime(rc_k) (42_key_schedule.md R86). -/
def rcon (k : Nat) : Byte := xtime^[k - 1] 0x01

/-- Nr = max(Nb, Nk) + 6 (00_scope.md R6). -/
def rounds (nb nk : Nat) : Nat := max nb nk + 6

/-- The commands one after the other, each from the state the one before left. -/
def runList : List Instr → State → Host.Outcome State Fault Refusal
  | [], s => .next s
  | i :: is, s =>
    match exec i s with
    | .next t => runList is t
    | .fault r => .fault r
    | .refused r => .refused r

/-- The commands of one middle round of E. -/
def encryptRound (r : Nat) : List Instr := [.subBytes, .shiftRows, .mixColumns, .addRoundKey (BitVec.ofNat 8 r)]

/-- The commands of one middle round of D. -/
def decryptRound (r : Nat) : List Instr :=
  [.addRoundKey (BitVec.ofNat 8 r), .invMixColumns, .invShiftRows, .invSubBytes]

/-- The round commands that E is made of (43_cipher_rounds.md R96; program P2 of 95_test_vectors.md). -/
def encryptCommands (nr : Nat) : List Instr :=
  List.flatten
    [[.addRoundKey 0], (List.range' 1 (nr - 1)).flatMap encryptRound,
     [.subBytes, .shiftRows, .addRoundKey (BitVec.ofNat 8 nr)]]

/-- The round commands that D is made of (43_cipher_rounds.md R97). -/
def decryptCommands (nr : Nat) : List Instr :=
  List.flatten
    [[.addRoundKey (BitVec.ofNat 8 nr), .invShiftRows, .invSubBytes],
     (List.range' 1 (nr - 1)).reverse.flatMap decryptRound, [.addRoundKey 0]]

/-- A 16-byte block as "a 128-bit big-endian polynomial": byte 0 holds the highest coefficients (20_memory.md R46). -/
def bigEndian (x : Bytes) : BitVec 128 := BitVec.ofNat 128 (x.foldl (fun v b => 256 * v + b.toNat) 0)

/-- The XOR of a list of blocks, `0^16` when there is none. -/
def xorAll (bs : List Bytes) : Bytes := bs.foldl xorBytes (zeroBytes 16)

end Sys2Proof.Claim

open Sys2Proof Sys2Proof.Machine Sys2Proof.Claim

/-! ## Encoding -/

/-- Every command's word decodes to the command, with every operand byte (30_encoding.md R57 to R59). -/
def Obligations.DecodeOfEncode : Prop :=
  ∀ i : Instr, i.wellFormed = true → decode (encode i) = .ok i

/-- A word that decodes is the word of its command: no bit of a legal word is dropped (30_encoding.md R60). -/
def Obligations.EncodeOfDecode : Prop :=
  ∀ (w : Word) (i : Instr), decode w = .ok i → encode i = w

/-- 30_encoding.md R61: a word that matches a row of the opcode table decodes to that row's command with the fields A and
B as operands, at most one row matches, and a word no row matches is illegal. -/
def Obligations.DecodeFollowsOpcodeTable : Prop :=
  ∀ w : Word,
    (∀ (k : Nat) (row : TableRow) (cmd : Byte → Byte → Instr), tableRows[k]? = some row →
      tableCommands[k]? = some cmd → row.matches w = true →
      decode w = .ok (cmd (w.extractLsb' 8 8) (w.extractLsb' 16 8)) ∧
        ∀ (k' : Nat) (row' : TableRow), tableRows[k']? = some row' → row'.matches w = true → k' = k) ∧
    ((∀ row ∈ tableRows, row.matches w = false) → ∃ e, decode w = .error e)

/-- 30_encoding.md R60: a pending word whose OP is unassigned, or that has a non-zero field its command does not use,
completes with ILLEGAL_COMMAND and changes nothing but STATUS; every other word decodes to a command. -/
def Obligations.IllegalWordsEndIllegal : Prop :=
  ∀ (s : State) (w : Word), s.pending = .command w →
    ((fieldsOf w).wellFormed = false →
      engineStep s = .next { s with errCode := .illegalCommand, pending := .idle, done := true }) ∧
    ((fieldsOf w).wellFormed = true → ∃ i, decode w = .ok i ∧ engineStep s = exec i s)

/-- 30_encoding.md R59, R62: words of the opcode map, written out from its columns. -/
def Obligations.CommandWordsOfTheMap : Prop :=
  decode 0x00000000 = .ok .nop ∧ decode 0x00000002 = .ok .keyexp ∧ decode 0x00000004 = .ok .decBlock ∧
  decode 0x00000013 = .ok .invShiftRows ∧ decode 0x00000A16 = .ok (.addRoundKey 10) ∧
  decode 0x0000ED21 = .ok (.invSbox 0xED) ∧ decode 0x00835722 = .ok (.gf8Mul 0x57 0x83) ∧
  decode 0x00000029 = .ok .gf128Triple ∧ decode 0x00000031 = .ok .cbcDec ∧ decode 0x0000003A = .ok .ocbDec ∧
  encode (.gf8Mul 0x57 0x83) = 0x00835722 ∧ encode (.addRoundKey 10) = 0x00000A16 ∧ encode (.sbox 0x53) = 0x00005320

/-! ## The step -/

/-- 40_control.md R65 (with log 2 for when): the step completes the pending word as the command it decodes to, or as
ILLEGAL_COMMAND. -/
def Obligations.PendingCommandIsCompleted : Prop :=
  ∀ (s : State) (w : Word), s.pending = .command w → engineNext s →
    (∀ i, decode w = .ok i → step s = exec i s) ∧
    (∀ e, decode w = .error e →
      step s = .next { s with errCode := .illegalCommand, pending := .idle, done := true })

/-- 20_memory.md R43, R49, R52 (with log 1 and 2 for the queue and the order): otherwise the oldest outside move is
performed; an access has its effect and appends its response on the port, a wait changes nothing (a reset is
ResetAndResetClear's); and an idle machine with no move left stays as it is (60_exceptions.md R142, log 8). -/
def Obligations.OutsideMoveIsPerformed : Prop :=
  (∀ (s : State) (m : Move) (rest : List Move), s.inputs = m :: rest →
    (s.pending = .idle ∨ (s.delay ≠ 0 ∧ m ≠ .waitIdle)) →
    step s = .next (State.perform m { s with inputs := rest, delay := s.delay - 1 })) ∧
  (∀ (s : State) (a : Access),
    State.perform (.access a) s = { s.afterAccess a with responses := s.responses ++ [s.responseTo a] }) ∧
  (∀ s : State, State.perform .waitIdle s = s) ∧
  (∀ s : State, s.pending = .idle → s.inputs = [] → step s = .next s)

/-- 70_reset_and_hazards.md R154: no state and no move stops the machine. -/
def Obligations.EveryStepAnswersNext : Prop := ∀ s : State, ∃ t, step s = .next t

/-- 70_reset_and_hazards.md R153: what is pending completes after finitely many steps, at most one more than the delay
(log 2), unless a reset comes first and starts another reset-clear. -/
def Obligations.PendingCompletionComes : Prop :=
  ∀ s : State, s.busy = true → Move.reset ∉ s.inputs.take s.delay →
    ∃ (k : Nat) (t : State), k ≤ s.delay + 1 ∧ Host.Core.run Sys2Proof.core k s = .next t ∧ t.busy = false

/-- 40_control.md R64: a write to CMD while BUSY = 0 sets CMD, PENDING (with BUSY), DONE and ERRCODE and nothing else of
CORE (`delay` and `draws` are the model's own, log 2); while BUSY = 1 it is ignored and sets OVR; no move of the outside
world but reset takes back what is pending. -/
def Obligations.CmdWriteIsAccepted : Prop :=
  (∀ (s : State) (v : Word), s.pending = .idle → ∃ t, s.afterAccess (writeAt 0x00C v) = t ∧
    t = { s with cmd := v, pending := .command v, done := false, errCode := .noError,
                 delay := t.delay, draws := t.draws }) ∧
  (∀ (s : State) (v : Word), s.pending ≠ .idle → s.afterAccess (writeAt 0x00C v) = { s with ovr := true }) ∧
  (∀ (s : State) (m : Move), s.pending ≠ .idle → m ≠ .reset → (State.perform m s).pending = s.pending)

/-- 40_control.md R66: while something is pending, no access and no wait changes anything a command reads: only CTRL, DONE
and OVR can change (and the port's responses). -/
def Obligations.CommandInputsAreFrozen : Prop :=
  ∀ (s : State) (m : Move), s.busy = true → m ≠ .reset → ∃ t, State.perform m s = t ∧
    t = { s with irqEn := t.irqEn, done := t.done, ovr := t.ovr, responses := t.responses }

/-! ## The bus port -/

/-- 10_state.md R42: reads and writes while BUSY = 1. -/
def Obligations.AccessesWhileBusy : Prop :=
  ∀ (s : State) (o : BitVec 16) (v : Word), s.busy = true → o.toNat % 4 = 0 →
    (o = 0x000 → s.responseTo (readAt o) = ⟨.okay, some 0x52494A44⟩) ∧
    (o = 0x004 → s.responseTo (readAt o) = ⟨.okay, some (if s.irqEn then 1 else 0)⟩) ∧
    (o = 0x008 → s.responseTo (readAt o) = ⟨.okay, some (BitVec.ofNat 32 (s.nb.toNat + 16 * s.nk.toNat))⟩) ∧
    (o = 0x00C → s.responseTo (readAt o) = ⟨.okay, some s.cmd⟩) ∧
    (o = 0x010 → s.responseTo (readAt o) = ⟨.okay, some s.status⟩) ∧
    (o = 0x020 → s.responseTo (readAt o) = ⟨.okay, some (BitVec.ofNat 32 s.params.msgBytes)⟩) ∧
    (o = 0x024 → s.responseTo (readAt o) = ⟨.okay, some (BitVec.ofNat 32 s.params.adBytes)⟩) ∧
    (dataOffset s.params o.toNat → s.responseTo (readAt o) = ⟨.okay, some 0⟩) ∧
    (o = 0x004 → s.afterAccess (writeAt o v) = { s with irqEn := v.getLsbD 0 }) ∧
    (o = 0x010 → s.afterAccess (writeAt o v) =
      { s with done := s.done && !v.getLsbD 1, ovr := s.ovr && !v.getLsbD 4 }) ∧
    (lockedOffset s.params o.toNat → s.afterAccess (writeAt o v) = { s with ovr := true }) ∧
    (¬ lockedOffset s.params o.toNat → o ≠ 0x004 → o ≠ 0x010 → s.afterAccess (writeAt o v) = s)

/-- 20_memory.md R44: every access that is not an aligned 32-bit one is refused, reads 0 and changes nothing; every
aligned one completes with OKAY. -/
def Obligations.OnlyAlignedWordsArePerformed : Prop :=
  ∀ (s : State) (a : Access),
    ((a.width ≠ 4 ∨ a.allLanes = false ∨ a.offset.toNat % 4 ≠ 0) →
      s.afterAccess a = s ∧ (s.responseTo a).code = .error ∧ (a.dir = .read → (s.responseTo a).data = some 0)) ∧
    (a.width = 4 → a.allLanes = true → a.offset.toNat % 4 = 0 → (s.responseTo a).code = .okay)

/-- 20_memory.md R48: reserved offsets, offsets beyond a buffer, reserved bits and write-only registers read as zero and
ignore writes, with OKAY, no OVR and no other effect. -/
def Obligations.ReservedReadsZeroIgnoresWrites : Prop :=
  (∀ (s : State) (o : BitVec 16) (v : Word), o.toNat % 4 = 0 → reservedOffset s.params o.toNat →
    s.responseTo (readAt o) = ⟨.okay, some 0⟩ ∧ s.responseTo (writeAt o v) = ⟨.okay, none⟩ ∧
      s.afterAccess (writeAt o v) = s) ∧
  (∀ (s : State) (o : BitVec 16), o.toNat % 4 = 0 → 0x040 ≤ o.toNat → o.toNat < 0x060 →
    s.responseTo (readAt o) = ⟨.okay, some 0⟩) ∧
  (∀ s : State, (∀ k, 1 ≤ k → s.ctrl.getLsbD k = false) ∧ (∀ k, 8 ≤ k → s.cfg.getLsbD k = false) ∧
    (∀ k, (5 ≤ k ∧ k ≤ 7) ∨ 12 ≤ k → s.status.getLsbD k = false)) ∧
  (∀ (s : State) (v v' : Word),
    (v.getLsbD 0 = v'.getLsbD 0 → s.afterAccess (writeAt 0x004 v) = s.afterAccess (writeAt 0x004 v')) ∧
    (v.extractLsb' 0 8 = v'.extractLsb' 0 8 → s.afterAccess (writeAt 0x008 v) = s.afterAccess (writeAt 0x008 v')) ∧
    (v.getLsbD 1 = v'.getLsbD 1 → v.getLsbD 4 = v'.getLsbD 4 →
      s.afterAccess (writeAt 0x010 v) = s.afterAccess (writeAt 0x010 v'))) ∧
  (∀ s : State, ∃ v, s.responseTo (readAt 0x014) = ⟨.okay, some v⟩ ∧ ∀ k, 8 ≤ k → v.getLsbD k = false)

/-- 20_memory.md R52: while BUSY = 0 a word written to MSG_LEN, AD_LEN, BLK, IV, TAG, AD or MSG reads back, and every
other aligned offset reads as before. -/
def Obligations.WrittenWordReadsBack : Prop :=
  ∀ (s : State) (o o' : BitVec 16) (v : Word), s.pending = .idle → s.MemoryOk → o.toNat % 4 = 0 → o'.toNat % 4 = 0 →
    storageOffset s.params o.toNat →
    (s.afterAccess (writeAt o v)).responseTo (readAt o) = ⟨.okay, some v⟩ ∧
    (o' ≠ o → (s.afterAccess (writeAt o v)).responseTo (readAt o') = s.responseTo (readAt o'))

/-- 20_memory.md R45, 10_state.md R16: byte a + j of the byte space is in bits [8j+7 : 8j] of the word at a, for KEY (as
written; it is write-only), BLK, IV and TAG and for the MSG and AD windows. -/
def Obligations.BytesLieLittleEndianInWords : Prop :=
  ∀ (s : State), s.pending = .idle → ∀ j < 4,
    (∀ k < 8, ∀ v,
      byteOf (s.afterAccess (writeAt (BitVec.ofNat 16 (0x040 + 4 * k)) v)).key (4 * k + j) =
        v.extractLsb' (8 * j) 8) ∧
    (∀ k < 8, ∃ v, s.responseTo (readAt (BitVec.ofNat 16 (0x060 + 4 * k))) = ⟨.okay, some v⟩ ∧
      v.extractLsb' (8 * j) 8 = byteOf s.blk (4 * k + j)) ∧
    (∀ k < 8, ∃ v, s.responseTo (readAt (BitVec.ofNat 16 (0x080 + 4 * k))) = ⟨.okay, some v⟩ ∧
      v.extractLsb' (8 * j) 8 = byteOf s.iv (4 * k + j)) ∧
    (∀ k < 4, ∃ v, s.responseTo (readAt (BitVec.ofNat 16 (0x0A0 + 4 * k))) = ⟨.okay, some v⟩ ∧
      v.extractLsb' (8 * j) 8 = byteOf s.tag (4 * k + j)) ∧
    (∀ o : BitVec 16, o.toNat % 4 = 0 → inAd s.params o.toNat ∨ inMsg s.params o.toNat →
      ∃ v, s.responseTo (readAt o) = ⟨.okay, some v⟩ ∧ v.extractLsb' (8 * j) 8 = s.mem.read (o.toNat + j))

/-- 10_state.md R19, R22, R28: while BUSY = 0 a write to CFG stores NB and NK as written, a write to KEY word k replaces
its four bytes, both clear KEYVALID and change nothing else. -/
def Obligations.CfgAndKeyWritesClearKeyvalid : Prop :=
  ∀ (s : State) (v : Word), s.pending = .idle →
    s.afterAccess (writeAt 0x008 v) =
      { s with nb := v.extractLsb' 0 4, nk := v.extractLsb' 4 4, keyValid := false } ∧
    (∀ k < 8, ∃ t, s.afterAccess (writeAt (BitVec.ofNat 16 (0x040 + 4 * k)) v) = t ∧
      t = { s with key := t.key, keyValid := false } ∧
      ∀ j < 32, byteOf t.key j = if j / 4 = k then v.extractLsb' (8 * (j % 4)) 8 else byteOf s.key j)

/-- 60_exceptions.md R137, D18: no access shows anything of KEY or of W: two machines that differ only there answer every
access alike. -/
def Obligations.KeyAndScheduleAreNeverShown : Prop :=
  ∀ (s s' : State) (a : Access), s' = { s with key := s'.key, w := s'.w } → s'.responseTo a = s.responseTo a

/-- 10_state.md R18, R17, R26: CTRL is written at any time and reads back in bit 0; ID, MSG_SIZE and AD_SIZE read their
constants at any time, and a write to them or to RESULT is ignored. 10_state.md R19, R20, R23, R24, R25: while BUSY = 0,
CFG, CMD, RESULT and the two lengths read their values. -/
def Obligations.CtrlAndReadOnlyRegisters : Prop :=
  (∀ (s : State) (v : Word),
    s.afterAccess (writeAt 0x004 v) = { s with irqEn := v.getLsbD 0 } ∧
    s.responseTo (readAt 0x004) = ⟨.okay, some (if s.irqEn then 1 else 0)⟩ ∧
    s.responseTo (readAt 0x000) = ⟨.okay, some 0x52494A44⟩ ∧
    s.responseTo (readAt 0x020) = ⟨.okay, some (BitVec.ofNat 32 s.params.msgBytes)⟩ ∧
    s.responseTo (readAt 0x024) = ⟨.okay, some (BitVec.ofNat 32 s.params.adBytes)⟩ ∧
    s.afterAccess (writeAt 0x000 v) = s ∧ s.afterAccess (writeAt 0x014 v) = s ∧
    s.afterAccess (writeAt 0x020 v) = s ∧ s.afterAccess (writeAt 0x024 v) = s) ∧
  (∀ s : State, s.pending = .idle →
    s.responseTo (readAt 0x008) = ⟨.okay, some (BitVec.ofNat 32 (s.nb.toNat + 16 * s.nk.toNat))⟩ ∧
    s.responseTo (readAt 0x00C) = ⟨.okay, some s.cmd⟩ ∧
    s.responseTo (readAt 0x014) = ⟨.okay, some (BitVec.ofNat 32 s.result.toNat)⟩ ∧
    s.responseTo (readAt 0x018) = ⟨.okay, some s.msgLen⟩ ∧
    s.responseTo (readAt 0x01C) = ⟨.okay, some s.adLen⟩)

/-! ## Status, interrupt, reset -/

/-- 10_state.md R21, 60_exceptions.md R128: the bits of STATUS, the numbers of the error codes, and what a write to it
does, BUSY or not. -/
def Obligations.StatusBitsAndWrites : Prop :=
  ∀ (s : State) (v : Word),
    s.responseTo (readAt 0x010) = ⟨.okay, some s.status⟩ ∧
    (s.status.getLsbD 0 = true ↔ s.pending ≠ .idle) ∧
    s.status.getLsbD 1 = s.done ∧
    (s.status.getLsbD 2 = true ↔ s.status.extractLsb' 8 4 ≠ 0) ∧
    s.status.getLsbD 3 = s.keyValid ∧
    s.status.getLsbD 4 = s.ovr ∧
    s.status.extractLsb' 5 3 = 0 ∧
    s.status.extractLsb' 8 4 =
      (match s.errCode with
       | .noError => 0
       | .illegalCommand => 1
       | .invalidKeyLength => 2
       | .invalidBlockSize => 3
       | .keyNotExpanded => 4
       | .badRound => 5
       | .lengthTooLarge => 6
       | .badCiphertextLength => 7
       | .emptyAd => 8
       | .authenticationFailed => 9) ∧
    s.status.extractLsb' 12 20 = 0 ∧
    s.afterAccess (writeAt 0x010 v) =
      { s with done := s.done && !v.getLsbD 1, ovr := s.ovr && !v.getLsbD 4 }

/-- 10_state.md R22: KEYVALID rises only at the successful completion of KEYEXP, and falls only by reset, ZEROIZE or an
accepted write to CFG or a KEY word; each of these does clear it, and a command that fails leaves it. -/
def Obligations.KeyvalidChangesOnlyAsSaid : Prop :=
  (∀ s t : State, step s = .next t →
    (s.keyValid = false → t.keyValid = true → s.pending = .command 0x00000002 ∧ t.errCode = .noError) ∧
    (s.keyValid = true → t.keyValid = false →
      (∃ rest, s.inputs = .reset :: rest) ∨ s.pending = .command 0x00000001 ∨
      (s.pending = .idle ∧ ∃ (o : BitVec 16) (v : Word) (rest : List Move),
        s.inputs = .access (writeAt o v) :: rest ∧ (o = 0x008 ∨ (0x040 ≤ o.toNat ∧ o.toNat < 0x060))))) ∧
  (∀ s : State, (State.perform .reset s).keyValid = false) ∧
  (∀ s : State, ∃ t, exec .zeroize s = .next t ∧ t.keyValid = false) ∧
  (∀ (s : State) (o : BitVec 16) (v : Word), s.pending = .idle → o.toNat % 4 = 0 →
    (o = 0x008 ∨ (0x040 ≤ o.toNat ∧ o.toNat < 0x060)) → (s.afterAccess (writeAt o v)).keyValid = false) ∧
  (∀ (i : Instr) (s t : State), exec i s = .next t → t.errCode ≠ .noError → t.keyValid = s.keyValid)

/-- 60_exceptions.md R133: IRQ is CTRL.IRQ_EN and STATUS.DONE; every completion, with success or error, raises it where
it is enabled, setting IRQ_EN while DONE = 1 raises it at once, a new command or a write of 1 to DONE lowers it, and the
reset-clear does not raise it. -/
def Obligations.InterruptFollowsDone : Prop :=
  ∀ s : State,
    (s.irq = true ↔ s.irqEn = true ∧ s.done = true) ∧
    (∀ w, s.pending = .command w → ∃ t, engineStep s = .next t ∧ t.irq = s.irqEn) ∧
    (∀ v, (s.afterAccess (writeAt 0x004 v)).irq = (v.getLsbD 0 && s.done)) ∧
    (∀ v, s.pending = .idle → (s.afterAccess (writeAt 0x00C v)).irq = false) ∧
    (∀ v, v.getLsbD 1 = true → (s.afterAccess (writeAt 0x010 v)).irq = false) ∧
    (s.pending = .resetClear → ∃ t, engineStep s = .next t ∧ t.irq = s.irq)

/-- 70_reset_and_hazards.md R143, R145: the reset input, whatever is in progress, puts everything of CORE to its reset
value and makes the reset-clear pending (the buffer sizes are the implementation's; the model's own fields are left open
here, log 7); the reset-clear then completes without DONE, ERRCODE or anything else changing but BUSY. -/
def Obligations.ResetAndResetClear : Prop :=
  (∀ s : State, ∃ t, State.perform .reset s = t ∧
    t = { State.resetWith s.params with
            inputs := t.inputs, responses := t.responses, delay := t.delay, draws := t.draws }) ∧
  (∀ s : State, s.pending = .resetClear → engineStep s = .next { s with pending := .idle } ∧
    (engineNext s → step s = engineStep s))

/-- 70_reset_and_hazards.md R144: the reset value of every piece of state, for every buffer size. -/
def Obligations.ResetValues : Prop :=
  ∀ p : Config.Params, ∃ s, State.resetWith p = s ∧
    s.params = p ∧ s.ctrl = 0x00000000 ∧ s.cfg = 0x00000044 ∧ s.cmd = 0x00000000 ∧ s.status = 0x00000001 ∧
    s.finishResetClear.status = 0x00000000 ∧ s.result = 0 ∧ s.msgLen = 0 ∧ s.adLen = 0 ∧
    (∀ j, byteOf s.key j = 0) ∧ (∀ j, byteOf s.blk j = 0) ∧ (∀ j, byteOf s.iv j = 0) ∧ (∀ j, byteOf s.tag j = 0) ∧
    (∀ a, s.mem.read a = 0) ∧ (∀ i, scheduleWord s.w i = ⟨0, 0, 0, 0⟩) ∧ s.snb = 0 ∧ s.snk = 0 ∧
    s.keyValid = false ∧ s.pending = .resetClear ∧ s.irq = false

/-! ## Control and byte commands -/

/-- 40_control.md R69: NOP completes and writes nothing else. -/
def Obligations.NopOnlyCompletes : Prop := ∀ s : State, exec .nop s = .next (succeeded s)

/-- 40_control.md R70: ZEROIZE clears keys, schedule, data registers, lengths and every byte of both buffers, and keeps
CTRL, CFG, CMD and OVR. -/
def Obligations.ZeroizeClears : Prop :=
  ∀ s : State, ∃ t, exec .zeroize s = .next t ∧
    (∀ j, byteOf t.key j = 0) ∧ (∀ j, byteOf t.blk j = 0) ∧ (∀ j, byteOf t.iv j = 0) ∧ (∀ j, byteOf t.tag j = 0) ∧
    (∀ i, scheduleWord t.w i = ⟨0, 0, 0, 0⟩) ∧ (∀ a, t.mem.read a = 0) ∧
    t.snb = 0 ∧ t.snk = 0 ∧ t.keyValid = false ∧ t.result = 0 ∧ t.msgLen = 0 ∧ t.adLen = 0 ∧
    t = { succeeded s with key := t.key, blk := t.blk, iv := t.iv, tag := t.tag, w := t.w, mem := t.mem, snb := t.snb,
                           snk := t.snk, keyValid := t.keyValid, result := t.result, msgLen := t.msgLen,
                           adLen := t.adLen }

/-- 41_gf_tables.md R80 to R83: the byte commands write their table's byte to RESULT and nothing else. -/
def Obligations.ByteCommandsWriteResult : Prop :=
  ∀ (s : State) (x y : Byte),
    exec (.sbox x) s = .next { succeeded s with result := sboxOf x } ∧
    exec (.invSbox x) s = .next { succeeded s with result := invSboxOf x } ∧
    exec (.gf8Mul x y) s = .next { succeeded s with result := gfMul x y } ∧
    exec (.gf8Inv x) s = .next { succeeded s with result := gfInv x }

/-- 41_gf_tables.md R74, R76, R77, R79: the tabulated S-box is the affine map of the inverse, for every byte; the two
tables are inverse permutations; the S-box has no fixed point; inv is the multiplicative inverse. -/
def Obligations.TableLaws : Prop :=
  (∀ x : Byte, sboxOf x = gfAffine (gfInv x)) ∧
  (∀ x : Byte, invSboxOf (sboxOf x) = x ∧ sboxOf (invSboxOf x) = x ∧ sboxOf x ≠ x) ∧
  (∀ x : Byte, x ≠ 0 → gfMul x (gfInv x) = 1) ∧ gfInv 0 = 0 ∧ sboxOf 0x00 = 0x63

/-- 41_gf_tables.md R71 to R73: mul is the product of polynomials mod x^8 + x^4 + x^3 + x + 1: xtime shifts left and
reduces by 0x1B when bit 7 was 1; mul is symmetric, additive in each operand, 1 is neutral, and multiplying by x is
xtime. -/
def Obligations.MultiplicationIsPolynomial : Prop :=
  ∀ x y z : Byte,
    xtime x = (x <<< 1) ^^^ (if x.getLsbD 7 then 0x1B else 0) ∧
    gfMul x y = gfMul y x ∧ gfMul x (y ^^^ z) = gfMul x y ^^^ gfMul x z ∧ gfMul 1 x = x ∧
    gfMul x (xtime y) = xtime (gfMul x y) ∧ gfMul 2 x = xtime x

/-! ## Key schedule -/

/-- 42_key_schedule.md R89: KEYEXP with legal CFG writes the expanded KEY[0..4·NK] into W, zero words beyond it, SNB, SNK
and KEYVALID, and nothing else. -/
def Obligations.KeyexpLoadsSchedule : Prop :=
  ∀ s : State, legalSize s.nk → legalSize s.nb →
    ∃ t, exec .keyexp s = .next t ∧
      t = { succeeded s with w := t.w, snb := s.nb, snk := s.nk, keyValid := true } ∧
      (∀ i < s.nb.toNat * (rounds s.nb.toNat s.nk.toNat + 1),
        (expandKey (regBytes s.key (4 * s.nk.toNat)) s.nb.toNat)[i]? = some (scheduleWord t.w i)) ∧
      (∀ i, s.nb.toNat * (rounds s.nb.toNat s.nk.toNat + 1) ≤ i → scheduleWord t.w i = ⟨0, 0, 0, 0⟩)

/-- 42_key_schedule.md R87: the words of expand_key; R85: what RotWord, SubWord, the Rcon XOR and the XOR of words do to
the four bytes of a word, and which byte is which. -/
def Obligations.ExpandKeyRecurrence : Prop :=
  (∀ (t u : SchedWord) (rc : Byte),
    rotWord t = ⟨t.b1, t.b2, t.b3, t.b0⟩ ∧
    subWord t = ⟨sboxOf t.b0, sboxOf t.b1, sboxOf t.b2, sboxOf t.b3⟩ ∧
    xorRcon t rc = ⟨t.b0 ^^^ rc, t.b1, t.b2, t.b3⟩ ∧
    xorWord t u = ⟨t.b0 ^^^ u.b0, t.b1 ^^^ u.b1, t.b2 ^^^ u.b2, t.b3 ^^^ u.b3⟩ ∧
    t.byte 0 = t.b0 ∧ t.byte 1 = t.b1 ∧ t.byte 2 = t.b2 ∧ t.byte 3 = t.b3) ∧
  (∀ (key : Bytes) (nb nk : Nat), nk ∈ [4, 6, 8] → nb ∈ [4, 6, 8] → key.length = 4 * nk →
    (expandKey key nb).length = nb * (rounds nb nk + 1) ∧
    (∀ i < nk, (expandKey key nb)[i]? =
      some ⟨key.getD (4 * i) 0, key.getD (4 * i + 1) 0, key.getD (4 * i + 2) 0, key.getD (4 * i + 3) 0⟩) ∧
    (∀ i, nk ≤ i → i < nb * (rounds nb nk + 1) → ∃ before prev,
      (expandKey key nb)[i - nk]? = some before ∧ (expandKey key nb)[i - 1]? = some prev ∧
      (expandKey key nb)[i]? = some (xorWord before
        (if i % nk = 0 then xorRcon (subWord (rotWord prev)) (rcon (i / nk))
         else if nk = 8 ∧ i % nk = 4 then subWord prev
         else prev))))

/-! ## Round transforms and the block cipher -/

/-- 43_cipher_rounds.md R100, R101: SUB_BYTES and INV_SUB_BYTES replace each byte of BLK[0..4·NB] through the table, need
no schedule and change nothing else. -/
def Obligations.SubBytesCommands : Prop :=
  ∀ s : State, legalSize s.nb →
    (∃ t, exec .subBytes s = .next t ∧ t = { succeeded s with blk := t.blk } ∧
      ∀ j < 32, byteOf t.blk j = if j < 4 * s.nb.toNat then sboxOf (byteOf s.blk j) else byteOf s.blk j) ∧
    (∃ t, exec .invSubBytes s = .next t ∧ t = { succeeded s with blk := t.blk } ∧
      ∀ j < 32, byteOf t.blk j = if j < 4 * s.nb.toNat then invSboxOf (byteOf s.blk j) else byteOf s.blk j)

/-- 43_cipher_rounds.md R91, R92, R102, R103: SHIFT_ROWS moves the byte at column c + C_r of row r to column c,
INV_SHIFT_ROWS moves it back. -/
def Obligations.ShiftRowsCommands : Prop :=
  ∀ s : State, legalSize s.nb →
    (∃ t, exec .shiftRows s = .next t ∧ t = { succeeded s with blk := t.blk } ∧
      (∀ r < 4, ∀ c < s.nb.toNat,
        byteOf t.blk (4 * c + r) = byteOf s.blk (4 * ((c + rowOffset s.nb.toNat r) % s.nb.toNat) + r)) ∧
      ∀ j, 4 * s.nb.toNat ≤ j → byteOf t.blk j = byteOf s.blk j) ∧
    (∃ t, exec .invShiftRows s = .next t ∧ t = { succeeded s with blk := t.blk } ∧
      (∀ r < 4, ∀ c < s.nb.toNat,
        byteOf t.blk (4 * ((c + rowOffset s.nb.toNat r) % s.nb.toNat) + r) = byteOf s.blk (4 * c + r)) ∧
      ∀ j, 4 * s.nb.toNat ≤ j → byteOf t.blk j = byteOf s.blk j)

/-- 43_cipher_rounds.md R93, R94, R104, R105: MIX_COLUMNS and INV_MIX_COLUMNS multiply each column of BLK[0..4·NB] by
their matrix. -/
def Obligations.MixColumnsCommands : Prop :=
  ∀ s : State, legalSize s.nb →
    (∃ t, exec .mixColumns s = .next t ∧ t = { succeeded s with blk := t.blk } ∧
      (∀ c < s.nb.toNat, ∀ a0 a1 a2 a3,
        a0 = byteOf s.blk (4 * c) → a1 = byteOf s.blk (4 * c + 1) → a2 = byteOf s.blk (4 * c + 2) →
        a3 = byteOf s.blk (4 * c + 3) →
        byteOf t.blk (4 * c) = gfMul 2 a0 ^^^ gfMul 3 a1 ^^^ a2 ^^^ a3 ∧
        byteOf t.blk (4 * c + 1) = a0 ^^^ gfMul 2 a1 ^^^ gfMul 3 a2 ^^^ a3 ∧
        byteOf t.blk (4 * c + 2) = a0 ^^^ a1 ^^^ gfMul 2 a2 ^^^ gfMul 3 a3 ∧
        byteOf t.blk (4 * c + 3) = gfMul 3 a0 ^^^ a1 ^^^ a2 ^^^ gfMul 2 a3) ∧
      ∀ j, 4 * s.nb.toNat ≤ j → byteOf t.blk j = byteOf s.blk j) ∧
    (∃ t, exec .invMixColumns s = .next t ∧ t = { succeeded s with blk := t.blk } ∧
      (∀ c < s.nb.toNat, ∀ a0 a1 a2 a3,
        a0 = byteOf s.blk (4 * c) → a1 = byteOf s.blk (4 * c + 1) → a2 = byteOf s.blk (4 * c + 2) →
        a3 = byteOf s.blk (4 * c + 3) →
        byteOf t.blk (4 * c) = gfMul 14 a0 ^^^ gfMul 11 a1 ^^^ gfMul 13 a2 ^^^ gfMul 9 a3 ∧
        byteOf t.blk (4 * c + 1) = gfMul 9 a0 ^^^ gfMul 14 a1 ^^^ gfMul 11 a2 ^^^ gfMul 13 a3 ∧
        byteOf t.blk (4 * c + 2) = gfMul 13 a0 ^^^ gfMul 9 a1 ^^^ gfMul 14 a2 ^^^ gfMul 11 a3 ∧
        byteOf t.blk (4 * c + 3) = gfMul 11 a0 ^^^ gfMul 13 a1 ^^^ gfMul 9 a2 ^^^ gfMul 14 a3) ∧
      ∀ j, 4 * s.nb.toNat ≤ j → byteOf t.blk j = byteOf s.blk j)

/-- 43_cipher_rounds.md R106, R95: ADD_ROUND_KEY r with a legal NB, an expanded key and r ≤ Nr XORs slice r of the
schedule into BLK[0..4·SNB]. -/
def Obligations.AddRoundKeyCommand : Prop :=
  ∀ (s : State) (r : Byte), legalSize s.nb → s.keyValid = true → r.toNat ≤ rounds s.snb.toNat s.snk.toNat →
    ∃ t, exec (.addRoundKey r) s = .next t ∧ t = { succeeded s with blk := t.blk } ∧
      ∀ j < 32, byteOf t.blk j =
        if j < 4 * s.snb.toNat then
          byteOf s.blk j ^^^ (scheduleWord s.w (r.toNat * s.snb.toNat + j / 4)).byte (j % 4)
        else byteOf s.blk j

/-- 43_cipher_rounds.md R107, R108: ENC_BLOCK and DEC_BLOCK with a legal NB and an expanded key write E and D of
BLK[0..4·SNB] there and change nothing else. -/
def Obligations.BlockCommands : Prop :=
  ∀ s : State, legalSize s.nb → s.keyValid = true → s.ScheduleOk →
    (∃ t, exec .encBlock s = .next t ∧ t = { succeeded s with blk := t.blk } ∧
      regBytes t.blk (4 * s.snb.toNat) = s.encrypt (regBytes s.blk (4 * s.snb.toNat)) ∧
      ∀ j, 4 * s.snb.toNat ≤ j → byteOf t.blk j = byteOf s.blk j) ∧
    (∃ t, exec .decBlock s = .next t ∧ t = { succeeded s with blk := t.blk } ∧
      regBytes t.blk (4 * s.snb.toNat) = s.decrypt (regBytes s.blk (4 * s.snb.toNat)) ∧
      ∀ j, 4 * s.snb.toNat ≤ j → byteOf t.blk j = byteOf s.blk j)

/-- 43_cipher_rounds.md R96: ENC_BLOCK is ADD_ROUND_KEY 0, then Nr − 1 rounds of SUB_BYTES, SHIFT_ROWS, MIX_COLUMNS and
ADD_ROUND_KEY, then SUB_BYTES, SHIFT_ROWS and ADD_ROUND_KEY Nr, run as commands. -/
def Obligations.EncBlockIsItsRoundCommands : Prop :=
  ∀ s : State, s.keyValid = true → s.ScheduleOk →
    ∃ t, exec .encBlock s = .next t ∧ runList (encryptCommands (rounds s.snb.toNat s.snk.toNat)) s = .next t

/-- 43_cipher_rounds.md R97: DEC_BLOCK is the inverse sequence of round commands. -/
def Obligations.DecBlockIsItsRoundCommands : Prop :=
  ∀ s : State, s.keyValid = true → s.ScheduleOk →
    ∃ t, exec .decBlock s = .next t ∧ runList (decryptCommands (rounds s.snb.toNat s.snk.toNat)) s = .next t

/-- 43_cipher_rounds.md R99: DEC_BLOCK after ENC_BLOCK, and ENC_BLOCK after DEC_BLOCK, restore BLK. -/
def Obligations.BlockCommandsInvert : Prop :=
  ∀ s : State, s.keyValid = true → s.ScheduleOk →
    runList [.encBlock, .decBlock] s = .next (succeeded s) ∧ runList [.decBlock, .encBlock] s = .next (succeeded s)

/-! ## GF(2^128) -/

/-- 45_gf128.md R118, R119: GF128_DOUBLE and GF128_TRIPLE replace BLK[0..16], whatever CFG and KEYVALID are. -/
def Obligations.Gf128Commands : Prop :=
  ∀ s : State,
    (∃ t, exec .gf128Double s = .next t ∧ t = { succeeded s with blk := t.blk } ∧
      regBytes t.blk 16 = gfDouble (regBytes s.blk 16) ∧ ∀ j, 16 ≤ j → byteOf t.blk j = byteOf s.blk j) ∧
    (∃ t, exec .gf128Triple s = .next t ∧ t = { succeeded s with blk := t.blk } ∧
      regBytes t.blk 16 = gfTriple (regBytes s.blk 16) ∧ ∀ j, 16 ≤ j → byteOf t.blk j = byteOf s.blk j)

/-- 45_gf128.md R115, R116: double is the shift of the big-endian 128-bit value, with 0x87 XORed into the low byte when
the top bit was 1; triple adds the block itself. -/
def Obligations.DoubleIsBigEndianShift : Prop :=
  ∀ x : Bytes, x.length = 16 →
    (gfDouble x).length = 16 ∧
    bigEndian (gfDouble x) = (bigEndian x <<< 1) ^^^ (if (bigEndian x).msb then 0x87 else 0) ∧
    bigEndian (gfTriple x) = bigEndian (gfDouble x) ^^^ bigEndian x

/-- 45_gf128.md R117: the laws of double and triple. -/
def Obligations.DoubleAndTripleLaws : Prop :=
  ∀ x y : Bytes, x.length = 16 → y.length = 16 →
    gfTriple (gfDouble x) = gfDouble (gfTriple x) ∧
    gfDouble (xorBytes x y) = xorBytes (gfDouble x) (gfDouble y) ∧
    gfTriple (gfTriple (gfDouble x)) = gfDouble (gfTriple (gfTriple x)) ∧
    gfTriple (xorBytes x y) = xorBytes (gfTriple x) (gfTriple y) ∧
    gfDouble (zeroBytes 16) = zeroBytes 16 ∧ gfTriple (zeroBytes 16) = zeroBytes 16 ∧
    (gfDouble x = gfDouble y → x = y) ∧ (gfTriple x = gfTriple y → x = y) ∧
    (x ≠ zeroBytes 16 → gfTriple x ≠ x)

/-! ## CBC -/

/-- 44_cbc.md R109, R110, R111 (c): the length of cbc_encrypt's output and each of its blocks, c[i] = E(p[i] XOR c[i-1])
with c[-1] = iv and the plaintext padded with zero bytes; the length of cbc_decrypt's output and each of its blocks,
p[i] = D(c[i]) XOR c[i-1], which depends on c[i-1] and c[i] alone. -/
def Obligations.CbcBlocks : Prop :=
  (∀ (E : Bytes → Bytes) (bs : Nat) (p iv : Bytes), 0 < bs → iv.length = bs → (∀ b, (E b).length = bs) →
    (cbcEncrypt E bs p iv).length = (p.length / bs + if p.length % bs = 0 then 0 else 1) * bs ∧
    ∀ i, i * bs < p.length →
      slice (cbcEncrypt E bs p iv) (i * bs) ((i + 1) * bs) =
        E (xorBytes ((List.range bs).map fun j => p.getD (i * bs + j) 0)
          (if i = 0 then iv else slice (cbcEncrypt E bs p iv) ((i - 1) * bs) (i * bs)))) ∧
  (∀ (D : Bytes → Bytes) (bs k : Nat) (c iv : Bytes), 0 < bs → c.length = k * bs → iv.length = bs →
    (∀ b, (D b).length = bs) →
    (cbcDecrypt D bs c iv).length = k * bs ∧
    ∀ i < k,
      slice (cbcDecrypt D bs c iv) (i * bs) ((i + 1) * bs) =
        xorBytes (D (slice c (i * bs) ((i + 1) * bs)))
          (if i = 0 then iv else slice c ((i - 1) * bs) (i * bs)))

/-- 44_cbc.md R112: CBC_ENC with a legal NB, an expanded key and a padded length that fits writes the ciphertext over
MSG[0..k·bs], sets MSG_LEN to k·bs, and leaves every other byte, IV and everything else. -/
def Obligations.CbcEncCommand : Prop :=
  ∀ (s : State) (n bs k : Nat), legalSize s.nb → s.keyValid = true → s.MemoryOk → s.ScheduleOk →
    n = s.msgLen.toNat → bs = 4 * s.snb.toNat → k = (n / bs + if n % bs = 0 then 0 else 1) →
    k * bs ≤ s.params.msgBytes →
    ∃ t, exec .cbcEnc s = .next t ∧
      t = { succeeded s with mem := t.mem, msgLen := BitVec.ofNat 32 (k * bs) } ∧ t.msgLen.toNat = k * bs ∧
      msgBytes t (k * bs) = cbcEncrypt s.encrypt bs (msgBytes s n) (regBytes s.iv bs) ∧
      ∀ a, (a < 0x8000 ∨ 0x8000 + k * bs ≤ a) → t.mem.read a = s.mem.read a

/-- 44_cbc.md R113: CBC_DEC with a legal NB, an expanded key and a length that fits and is a multiple of the block writes
the plaintext over MSG[0..MSG_LEN] and leaves everything else; nothing is stripped. -/
def Obligations.CbcDecCommand : Prop :=
  ∀ (s : State) (n bs : Nat), legalSize s.nb → s.keyValid = true → s.MemoryOk → s.ScheduleOk →
    n = s.msgLen.toNat → bs = 4 * s.snb.toNat → n ≤ s.params.msgBytes → n % bs = 0 →
    ∃ t, exec .cbcDec s = .next t ∧ t = { succeeded s with mem := t.mem } ∧
      msgBytes t n = cbcDecrypt s.decrypt bs (msgBytes s n) (regBytes s.iv bs) ∧
      ∀ a, (a < 0x8000 ∨ 0x8000 + n ≤ a) → t.mem.read a = s.mem.read a

/-- 44_cbc.md R111 (a): CBC_DEC after CBC_ENC gives the message followed by its zero pad bytes, for every legal geometry.
-/
def Obligations.CbcRoundTrip : Prop :=
  ∀ (s : State) (n bs k : Nat), s.keyValid = true → s.MemoryOk → s.ScheduleOk →
    n = s.msgLen.toNat → bs = 4 * s.snb.toNat → k = (n / bs + if n % bs = 0 then 0 else 1) →
    k * bs ≤ s.params.msgBytes →
    ∃ t, runList [.cbcEnc, .cbcDec] s = .next t ∧
      t = { succeeded s with mem := t.mem, msgLen := BitVec.ofNat 32 (k * bs) } ∧
      ∀ a, t.mem.read a = if 0x8000 + n ≤ a ∧ a < 0x8000 + k * bs then 0 else s.mem.read a

/-! ## PMAC and OCB2 -/

/-- 46_ocb2_pmac.md R121: pmac as a sum: block i of the header before the last is encrypted under double^(i+1) of L, the
last one joins the checksum, padded with 0x80 and zeros when it is short. -/
def Obligations.PmacIsItsSum : Prop :=
  ∀ (E : Bytes → Bytes) (header : Bytes) (m b : Nat), (∀ x, (E x).length = 16) → 0 < m → 1 ≤ b → b ≤ 16 →
    header.length = 16 * (m - 1) + b →
    ∃ base last offset, base = gfTriple (gfTriple (E (zeroBytes 16))) ∧
      last = slice header (16 * (m - 1)) (16 * (m - 1) + b) ∧
      offset = (if b = 16 then gfTriple (gfDouble^[m] base) else gfTriple (gfTriple (gfDouble^[m] base))) ∧
      pmacOf E header =
        E (xorBytes offset
          (xorBytes
            (xorAll ((List.range (m - 1)).map fun i =>
              E (xorBytes (gfDouble^[i + 1] base) (slice header (16 * i) (16 * i + 16)))))
            (if b = 16 then last else last ++ 0x80 :: zeroBytes (15 - b))))

/-- 46_ocb2_pmac.md R122, R124 (c): the blocks of ocb_encrypt: full block i before the last is L_i ⊕ E(L_i ⊕ P[i]) with
L_i = double^(i+1)(E(iv)), the last b bytes are XORed with the pad, and the tag is E of the checksum and the tripled
offset, with pmac(H) for a non-empty header. -/
def Obligations.OcbEncryptBlocks : Prop :=
  ∀ (E : Bytes → Bytes) (header p iv : Bytes) (m b : Nat), (∀ x, (E x).length = 16) → 0 < m → b ≤ 16 →
    (b = 0 → m = 1) → p.length = 16 * (m - 1) + b →
    ∃ offset pad last checksum, offset = gfDouble^[m] (E iv) ∧
      pad = E (xorBytes offset (num2str (8 * b) 16)) ∧ last = slice p (16 * (m - 1)) (16 * (m - 1) + b) ∧
      checksum = xorBytes (xorAll ((List.range (m - 1)).map fun i => slice p (16 * i) (16 * i + 16)))
        (last ++ pad.drop b) ∧
      (ocbEncrypt E header p iv).1.length = p.length ∧
      (∀ i < m - 1, slice (ocbEncrypt E header p iv).1 (16 * i) (16 * i + 16) =
        xorBytes (gfDouble^[i + 1] (E iv))
          (E (xorBytes (gfDouble^[i + 1] (E iv)) (slice p (16 * i) (16 * i + 16))))) ∧
      slice (ocbEncrypt E header p iv).1 (16 * (m - 1)) p.length = xorBytes last (pad.take b) ∧
      (ocbEncrypt E header p iv).2 =
        (if header = [] then E (xorBytes checksum (gfTriple offset))
         else xorBytes (E (xorBytes checksum (gfTriple offset))) (pmacOf E header))

/-- 46_ocb2_pmac.md R125: PMAC with NB = 4, an expanded key and a non-empty AD that fits writes pmac(AD[0..AD_LEN]) to TAG
and changes nothing else. -/
def Obligations.PmacCommand : Prop :=
  ∀ s : State, s.nb = 4 → s.keyValid = true → s.ScheduleOk → s.adLen.toNat ≤ s.params.adBytes → s.adLen ≠ 0 →
    ∃ t, exec .pmac s = .next t ∧ t = { succeeded s with tag := t.tag } ∧
      regBytes t.tag 16 = pmacOf s.encrypt (adBytes s s.adLen.toNat)

/-- 46_ocb2_pmac.md R126: OCB_ENC with NB = 4, an expanded key and lengths that fit writes the ciphertext over
MSG[0..MSG_LEN] and the tag to TAG, and leaves everything else. -/
def Obligations.OcbEncCommand : Prop :=
  ∀ s : State, s.nb = 4 → s.keyValid = true → s.MemoryOk → s.ScheduleOk → s.msgLen.toNat ≤ s.params.msgBytes →
    s.adLen.toNat ≤ s.params.adBytes →
    ∃ t, exec .ocbEnc s = .next t ∧ t = { succeeded s with mem := t.mem, tag := t.tag } ∧
      (msgBytes t s.msgLen.toNat, regBytes t.tag 16) =
        ocbEncrypt s.encrypt (adBytes s s.adLen.toNat) (msgBytes s s.msgLen.toNat) (regBytes s.iv 16) ∧
      ∀ a, (a < 0x8000 ∨ 0x8000 + s.msgLen.toNat ≤ a) → t.mem.read a = s.mem.read a

/-- 46_ocb2_pmac.md R127: OCB_DEC under the same conditions writes the plaintext when the recomputed tag equals TAG, and
otherwise ends with AUTHENTICATION_FAILED and changes nothing but STATUS. -/
def Obligations.OcbDecCommand : Prop :=
  ∀ (s : State) (plain tag : Bytes), s.nb = 4 → s.keyValid = true → s.MemoryOk → s.ScheduleOk →
    s.msgLen.toNat ≤ s.params.msgBytes → s.adLen.toNat ≤ s.params.adBytes →
    (plain, tag) = ocbDecrypt s.encrypt s.decrypt (adBytes s s.adLen.toNat) (msgBytes s s.msgLen.toNat)
      (regBytes s.iv 16) →
    (tag = regBytes s.tag 16 → ∃ t, exec .ocbDec s = .next t ∧ t = { succeeded s with mem := t.mem } ∧
      msgBytes t s.msgLen.toNat = plain ∧
      ∀ a, (a < 0x8000 ∨ 0x8000 + s.msgLen.toNat ≤ a) → t.mem.read a = s.mem.read a) ∧
    (tag ≠ regBytes s.tag 16 →
      exec .ocbDec s = .next { s with errCode := .authenticationFailed, pending := .idle, done := true })

/-- 46_ocb2_pmac.md R124 (a): OCB_DEC after OCB_ENC succeeds and restores both buffers exactly, for every header, message
and legal Nk. -/
def Obligations.OcbRoundTrip : Prop :=
  ∀ s : State, s.nb = 4 → s.keyValid = true → s.MemoryOk → s.ScheduleOk → s.msgLen.toNat ≤ s.params.msgBytes →
    s.adLen.toNat ≤ s.params.adBytes →
    ∃ t, runList [.ocbEnc, .ocbDec] s = .next t ∧ t = { succeeded s with tag := t.tag }

/-! ## Errors and frames -/

/-- 60_exceptions.md R129, R131 (a): a command runs the checks marked for it, the lowest failing code is its error, and
it succeeds when none fails. -/
def Obligations.LowestFailingCodeIsReported : Prop :=
  ∀ (i : Instr) (s : State), ∃ t, exec i s = .next t ∧
    ((∀ e ∈ marked i, ¬ condition s i e) → t.errCode = .noError) ∧
    (∀ e ∈ marked i, condition s i e → (∀ e' ∈ marked i, e'.code.toNat < e.code.toNat → ¬ condition s i e') →
      t.errCode = e)

/-- 60_exceptions.md R130: a completion with an error, an illegal word and AUTHENTICATION_FAILED included, changes nothing
but STATUS; the next command's acceptance clears ERRCODE. -/
def Obligations.FailedCommandChangesOnlyStatus : Prop :=
  (∀ (s t : State) (w : Word), s.pending = .command w → engineStep s = .next t → t.errCode ≠ .noError →
    t = { s with errCode := t.errCode, pending := .idle, done := true }) ∧
  (∀ (i : Instr) (s t : State), exec i s = .next t → t.errCode ≠ .noError →
    t = { s with errCode := t.errCode, pending := .idle, done := true }) ∧
  (∀ (s : State) (v : Word), s.pending = .idle → (s.afterAccess (writeAt 0x00C v)).errCode = .noError)

/-- 10_state.md R18 to R35, 40_control.md R65: what no command changes, and what only the named commands change. -/
def Obligations.CommandsWriteOnlyTheirTargets : Prop :=
  ∀ (i : Instr) (s t : State), exec i s = .next t →
    t.params = s.params ∧ t.irqEn = s.irqEn ∧ t.nb = s.nb ∧ t.nk = s.nk ∧ t.cmd = s.cmd ∧ t.ovr = s.ovr ∧
    t.done = true ∧ t.pending = .idle ∧
    t.inputs = s.inputs ∧ t.responses = s.responses ∧ t.delay = s.delay ∧ t.draws = s.draws ∧
    (i ≠ .zeroize → t.key = s.key ∧ t.iv = s.iv ∧ t.adLen = s.adLen) ∧
    (writesResult i = false → t.result = s.result) ∧
    (writesBlk i = false → t.blk = s.blk) ∧
    (writesTag i = false → t.tag = s.tag) ∧
    (writesMsgLen i = false → t.msgLen = s.msgLen) ∧
    (writesSchedule i = false → t.w = s.w ∧ t.snb = s.snb ∧ t.snk = s.snk ∧ t.keyValid = s.keyValid) ∧
    (writesMsg i = false → t.mem = s.mem) ∧
    (i ≠ .zeroize → ∀ a < 0x8000, t.mem.read a = s.mem.read a)

/-! ## Invariants -/

/-- The memory stays in canonical form and inside the two buffers (10_state.md R32, R33), at every step from every state
that has it. -/
def Obligations.MemoryStaysCanonical : Prop :=
  ∀ s t : State, s.MemoryOk → step s = .next t → t.MemoryOk

/-- While KEYVALID = 1, W is the schedule of KEY for CFG and SNB, SNK equal CFG (10_state.md R22, R35): every step keeps
it. -/
def Obligations.ScheduleStaysKeysOwn : Prop :=
  ∀ s t : State, s.ScheduleOk → step s = .next t → t.ScheduleOk

/-- SNB and SNK stay both 0 or both legal, and W stays 0 beyond their schedule (10_state.md R34, R35): every step keeps
it. -/
def Obligations.GeometryStaysLegal : Prop :=
  ∀ s t : State, s.GeometryOk → step s = .next t → t.GeometryOk

/-- While BUSY = 1, DONE and ERRCODE are clear, CMD reads the pending word, and during the reset-clear everything is at
its reset value (10_state.md R36, 40_control.md R64, 70_reset_and_hazards.md R145): every step keeps it. -/
def Obligations.EngineStaysConsistent : Prop :=
  ∀ s t : State, s.EngineOk → step s = .next t → t.EngineOk

/-- The state after reset meets all four invariants, for every buffer size (70_reset_and_hazards.md R144). -/
def Obligations.ResetMeetsInvariants : Prop := ∀ p : Config.Params, (State.resetWith p).Inv
end

