-- ==== Sys2Proof/Laws/Bytes.lean ====
section
/-! SUPPORT. Lengths and positions of the byte strings: the state matrix, the registers, blocks, and the round
transforms and block functions built from them. -/

namespace Sys2Proof.Machine

/-! ### Strings -/

@[simp] theorem length_zeroBytes (n : Nat) : (zeroBytes n).length = n := by simp [zeroBytes]

@[simp] theorem length_xorBytes (s t : Bytes) : (xorBytes s t).length = min s.length t.length := by simp [xorBytes]

@[simp] theorem length_num2str (v n : Nat) : (num2str v n).length = n := by simp [num2str]

@[simp] theorem xorBytes_nil_left (t : Bytes) : xorBytes [] t = [] := by simp [xorBytes]

theorem xorBytes_comm (s t : Bytes) : xorBytes s t = xorBytes t s := by
  simp only [xorBytes]
  rw [List.zipWith_comm]
  congr
  funext a b
  exact BitVec.xor_comm b a

/-- XOR with the same string twice gives the string back. -/
theorem xorBytes_cancel {s t : Bytes} (h : s.length ≤ t.length) : xorBytes (xorBytes s t) t = s := by
  apply List.ext_getElem
  · simp only [length_xorBytes]
    omega
  · intro i h1 h2
    simp [xorBytes]

@[simp] theorem length_splitBlocks (size k : Nat) (s : Bytes) : (splitBlocks size k s).length = k := by
  induction k generalizing s with
  | zero => rfl
  | succ k ih => simp [splitBlocks, ih]

/-- Blocks of a string that is long enough have the block's size. -/
theorem length_of_mem_splitBlocks {size k : Nat} {s b : Bytes} (hs : k * size ≤ s.length)
    (h : b ∈ splitBlocks size k s) : b.length = size := by
  induction k generalizing s with
  | zero => simp [splitBlocks] at h
  | succ k ih =>
    have hs' : k * size + size ≤ s.length := by rw [← Nat.succ_mul]; exact hs
    rcases List.mem_cons.mp h with rfl | h
    · simp
      omega
    · exact ih (by simp; omega) h

/-! ### The state matrix -/

@[simp] theorem length_matrix (nb : Nat) (f : Nat → Nat → Byte) : (matrix nb f).length = 4 * nb := by simp [matrix]

/-- The byte at row r, column c of a matrix. -/
theorem cell_matrix {nb r c : Nat} (f : Nat → Nat → Byte) (hr : r < 4) (hc : c < nb) :
    cell (matrix nb f) r c = f r c := by
  have h : 4 * c + r < 4 * nb := by omega
  have h1 : (4 * c + r) % 4 = r := by omega
  have h2 : (4 * c + r) / 4 = c := by omega
  simp [cell, matrix, List.getD, h, h1, h2]

/-- Two strings of 4·nb bytes with the same cells are equal. -/
theorem ext_cell {nb : Nat} {st st' : Bytes} (h : st.length = 4 * nb) (h' : st'.length = 4 * nb)
    (hc : ∀ r < 4, ∀ c < nb, cell st r c = cell st' r c) : st = st' := by
  apply List.ext_getElem (by omega)
  intro i h1 h2
  have := hc (i % 4) (by omega) (i / 4) (by omega)
  have hi : 4 * (i / 4) + i % 4 = i := by omega
  simpa [cell, List.getD, hi, h1, h2] using this

/-! ### The block functions keep the block's length -/

@[simp] theorem length_subBytes (st : Bytes) : (subBytes st).length = st.length := by simp [subBytes]
@[simp] theorem length_invSubBytes (st : Bytes) : (invSubBytes st).length = st.length := by simp [invSubBytes]
@[simp] theorem length_shiftRows (nb : Nat) (st : Bytes) : (shiftRows nb st).length = 4 * nb := length_matrix _ _
@[simp] theorem length_invShiftRows (nb : Nat) (st : Bytes) : (invShiftRows nb st).length = 4 * nb := length_matrix _ _
@[simp] theorem length_mixColumns (nb : Nat) (st : Bytes) : (mixColumns nb st).length = 4 * nb := length_matrix _ _
@[simp] theorem length_invMixColumns (nb : Nat) (st : Bytes) : (invMixColumns nb st).length = 4 * nb := length_matrix _ _

@[simp] theorem length_addRoundKey (w : Vector SchedWord 120) (nb k : Nat) (st : Bytes) :
    (addRoundKey w nb k st).length = 4 * nb := length_matrix _ _

@[simp] theorem length_encryptBlock (w : Vector SchedWord 120) (nb nr : Nat) (b : Bytes) :
    (encryptBlock w nb nr b).length = 4 * nb := length_addRoundKey _ _ _ _

@[simp] theorem length_decryptBlock (w : Vector SchedWord 120) (nb nr : Nat) (b : Bytes) :
    (decryptBlock w nb nr b).length = 4 * nb := length_addRoundKey _ _ _ _

@[simp] theorem length_encrypt (s : State) (b : Bytes) : (s.encrypt b).length = 4 * s.schedNb :=
  length_encryptBlock _ _ _ _
@[simp] theorem length_decrypt (s : State) (b : Bytes) : (s.decrypt b).length = 4 * s.schedNb :=
  length_decryptBlock _ _ _ _

@[simp] theorem length_gfDouble (x : Bytes) : (gfDouble x).length = 16 := by simp [gfDouble]

@[simp] theorem length_gfTriple (x : Bytes) : (gfTriple x).length = min 16 x.length := by simp [gfTriple]

/-! ### The registers -/

@[simp] theorem length_firstBytes {m : Nat} (reg : Vector Byte m) (n : Nat) :
    (firstBytes reg n).length = min n m := by simp [firstBytes]

theorem getD_firstBytes {m : Nat} (reg : Vector Byte m) {n j : Nat} (hj : j < n) :
    (firstBytes reg n).getD j 0 = byteOf reg j := by
  simp [firstBytes, byteOf, List.getD, hj]

/-- Byte j of a register whose first |s| bytes were written over. -/
theorem byteOf_overwrite {m : Nat} (reg : Vector Byte m) (s : Bytes) {j : Nat} (hj : j < m) :
    byteOf (overwrite reg s) j = s.getD j (byteOf reg j) := by
  simp [overwrite, byteOf, hj]

/-- Byte j of a register whose word k was replaced. -/
theorem byteOf_setWordOf {m : Nat} (reg : Vector Byte m) (k : Nat) (v : Word) {j : Nat} (hj : j < m) :
    byteOf (setWordOf reg k v) j = if j / 4 = k then laneOf v (j % 4) else byteOf reg j := by
  simp [setWordOf, byteOf, hj]

/-- Packing four bytes into a word and taking a lane gives the byte back (20_memory.md R45). -/
theorem laneOf_packWord (b0 b1 b2 b3 : Byte) :
    laneOf (packWord b0 b1 b2 b3) 0 = b0 ∧ laneOf (packWord b0 b1 b2 b3) 1 = b1 ∧
      laneOf (packWord b0 b1 b2 b3) 2 = b2 ∧ laneOf (packWord b0 b1 b2 b3) 3 = b3 := by
  refine ⟨?_, ?_, ?_, ?_⟩ <;>
  · ext i hi
    interval_cases i <;> simp [laneOf, packWord]

/-- Packing the four lanes of a word gives the word back (20_memory.md R45). -/
theorem packWord_laneOf (v : Word) : packWord (laneOf v 0) (laneOf v 1) (laneOf v 2) (laneOf v 3) = v := by
  ext i hi
  interval_cases i <;> simp [laneOf, packWord]

end Sys2Proof.Machine
end

