-- ==== Sys2Proof/Laws/State.lean ====
section
/-! SUPPORT. One lemma per field per state update, true by rfl, so that no proof unfolds a record update. -/

namespace Sys2Proof.Machine

/-! ### storeBlk -/

@[simp] theorem State.storeBlk_params (s : State) (st : Bytes) : (s.storeBlk st).params = s.params := rfl
@[simp] theorem State.storeBlk_irqEn (s : State) (st : Bytes) : (s.storeBlk st).irqEn = s.irqEn := rfl
@[simp] theorem State.storeBlk_nb (s : State) (st : Bytes) : (s.storeBlk st).nb = s.nb := rfl
@[simp] theorem State.storeBlk_nk (s : State) (st : Bytes) : (s.storeBlk st).nk = s.nk := rfl
@[simp] theorem State.storeBlk_cmd (s : State) (st : Bytes) : (s.storeBlk st).cmd = s.cmd := rfl
@[simp] theorem State.storeBlk_done (s : State) (st : Bytes) : (s.storeBlk st).done = s.done := rfl
@[simp] theorem State.storeBlk_keyValid (s : State) (st : Bytes) : (s.storeBlk st).keyValid = s.keyValid := rfl
@[simp] theorem State.storeBlk_ovr (s : State) (st : Bytes) : (s.storeBlk st).ovr = s.ovr := rfl
@[simp] theorem State.storeBlk_errCode (s : State) (st : Bytes) : (s.storeBlk st).errCode = s.errCode := rfl
@[simp] theorem State.storeBlk_result (s : State) (st : Bytes) : (s.storeBlk st).result = s.result := rfl
@[simp] theorem State.storeBlk_msgLen (s : State) (st : Bytes) : (s.storeBlk st).msgLen = s.msgLen := rfl
@[simp] theorem State.storeBlk_adLen (s : State) (st : Bytes) : (s.storeBlk st).adLen = s.adLen := rfl
@[simp] theorem State.storeBlk_key (s : State) (st : Bytes) : (s.storeBlk st).key = s.key := rfl
@[simp] theorem State.storeBlk_blk (s : State) (st : Bytes) : (s.storeBlk st).blk = overwrite s.blk st := rfl
@[simp] theorem State.storeBlk_iv (s : State) (st : Bytes) : (s.storeBlk st).iv = s.iv := rfl
@[simp] theorem State.storeBlk_tag (s : State) (st : Bytes) : (s.storeBlk st).tag = s.tag := rfl
@[simp] theorem State.storeBlk_mem (s : State) (st : Bytes) : (s.storeBlk st).mem = s.mem := rfl
@[simp] theorem State.storeBlk_w (s : State) (st : Bytes) : (s.storeBlk st).w = s.w := rfl
@[simp] theorem State.storeBlk_snb (s : State) (st : Bytes) : (s.storeBlk st).snb = s.snb := rfl
@[simp] theorem State.storeBlk_snk (s : State) (st : Bytes) : (s.storeBlk st).snk = s.snk := rfl
@[simp] theorem State.storeBlk_pending (s : State) (st : Bytes) : (s.storeBlk st).pending = s.pending := rfl
@[simp] theorem State.storeBlk_inputs (s : State) (st : Bytes) : (s.storeBlk st).inputs = s.inputs := rfl
@[simp] theorem State.storeBlk_responses (s : State) (st : Bytes) : (s.storeBlk st).responses = s.responses := rfl
@[simp] theorem State.storeBlk_delay (s : State) (st : Bytes) : (s.storeBlk st).delay = s.delay := rfl
@[simp] theorem State.storeBlk_draws (s : State) (st : Bytes) : (s.storeBlk st).draws = s.draws := rfl

/-! ### storeTag -/

@[simp] theorem State.storeTag_params (s : State) (t : Bytes) : (s.storeTag t).params = s.params := rfl
@[simp] theorem State.storeTag_irqEn (s : State) (t : Bytes) : (s.storeTag t).irqEn = s.irqEn := rfl
@[simp] theorem State.storeTag_nb (s : State) (t : Bytes) : (s.storeTag t).nb = s.nb := rfl
@[simp] theorem State.storeTag_nk (s : State) (t : Bytes) : (s.storeTag t).nk = s.nk := rfl
@[simp] theorem State.storeTag_cmd (s : State) (t : Bytes) : (s.storeTag t).cmd = s.cmd := rfl
@[simp] theorem State.storeTag_done (s : State) (t : Bytes) : (s.storeTag t).done = s.done := rfl
@[simp] theorem State.storeTag_keyValid (s : State) (t : Bytes) : (s.storeTag t).keyValid = s.keyValid := rfl
@[simp] theorem State.storeTag_ovr (s : State) (t : Bytes) : (s.storeTag t).ovr = s.ovr := rfl
@[simp] theorem State.storeTag_errCode (s : State) (t : Bytes) : (s.storeTag t).errCode = s.errCode := rfl
@[simp] theorem State.storeTag_result (s : State) (t : Bytes) : (s.storeTag t).result = s.result := rfl
@[simp] theorem State.storeTag_msgLen (s : State) (t : Bytes) : (s.storeTag t).msgLen = s.msgLen := rfl
@[simp] theorem State.storeTag_adLen (s : State) (t : Bytes) : (s.storeTag t).adLen = s.adLen := rfl
@[simp] theorem State.storeTag_key (s : State) (t : Bytes) : (s.storeTag t).key = s.key := rfl
@[simp] theorem State.storeTag_blk (s : State) (t : Bytes) : (s.storeTag t).blk = s.blk := rfl
@[simp] theorem State.storeTag_iv (s : State) (t : Bytes) : (s.storeTag t).iv = s.iv := rfl
@[simp] theorem State.storeTag_tag (s : State) (t : Bytes) : (s.storeTag t).tag = overwrite s.tag t := rfl
@[simp] theorem State.storeTag_mem (s : State) (t : Bytes) : (s.storeTag t).mem = s.mem := rfl
@[simp] theorem State.storeTag_w (s : State) (t : Bytes) : (s.storeTag t).w = s.w := rfl
@[simp] theorem State.storeTag_snb (s : State) (t : Bytes) : (s.storeTag t).snb = s.snb := rfl
@[simp] theorem State.storeTag_snk (s : State) (t : Bytes) : (s.storeTag t).snk = s.snk := rfl
@[simp] theorem State.storeTag_pending (s : State) (t : Bytes) : (s.storeTag t).pending = s.pending := rfl
@[simp] theorem State.storeTag_inputs (s : State) (t : Bytes) : (s.storeTag t).inputs = s.inputs := rfl
@[simp] theorem State.storeTag_responses (s : State) (t : Bytes) : (s.storeTag t).responses = s.responses := rfl
@[simp] theorem State.storeTag_delay (s : State) (t : Bytes) : (s.storeTag t).delay = s.delay := rfl
@[simp] theorem State.storeTag_draws (s : State) (t : Bytes) : (s.storeTag t).draws = s.draws := rfl

/-! ### storeResult -/

@[simp] theorem State.storeResult_params (s : State) (b : Byte) : (s.storeResult b).params = s.params := rfl
@[simp] theorem State.storeResult_irqEn (s : State) (b : Byte) : (s.storeResult b).irqEn = s.irqEn := rfl
@[simp] theorem State.storeResult_nb (s : State) (b : Byte) : (s.storeResult b).nb = s.nb := rfl
@[simp] theorem State.storeResult_nk (s : State) (b : Byte) : (s.storeResult b).nk = s.nk := rfl
@[simp] theorem State.storeResult_cmd (s : State) (b : Byte) : (s.storeResult b).cmd = s.cmd := rfl
@[simp] theorem State.storeResult_done (s : State) (b : Byte) : (s.storeResult b).done = s.done := rfl
@[simp] theorem State.storeResult_keyValid (s : State) (b : Byte) : (s.storeResult b).keyValid = s.keyValid := rfl
@[simp] theorem State.storeResult_ovr (s : State) (b : Byte) : (s.storeResult b).ovr = s.ovr := rfl
@[simp] theorem State.storeResult_errCode (s : State) (b : Byte) : (s.storeResult b).errCode = s.errCode := rfl
@[simp] theorem State.storeResult_result (s : State) (b : Byte) : (s.storeResult b).result = b := rfl
@[simp] theorem State.storeResult_msgLen (s : State) (b : Byte) : (s.storeResult b).msgLen = s.msgLen := rfl
@[simp] theorem State.storeResult_adLen (s : State) (b : Byte) : (s.storeResult b).adLen = s.adLen := rfl
@[simp] theorem State.storeResult_key (s : State) (b : Byte) : (s.storeResult b).key = s.key := rfl
@[simp] theorem State.storeResult_blk (s : State) (b : Byte) : (s.storeResult b).blk = s.blk := rfl
@[simp] theorem State.storeResult_iv (s : State) (b : Byte) : (s.storeResult b).iv = s.iv := rfl
@[simp] theorem State.storeResult_tag (s : State) (b : Byte) : (s.storeResult b).tag = s.tag := rfl
@[simp] theorem State.storeResult_mem (s : State) (b : Byte) : (s.storeResult b).mem = s.mem := rfl
@[simp] theorem State.storeResult_w (s : State) (b : Byte) : (s.storeResult b).w = s.w := rfl
@[simp] theorem State.storeResult_snb (s : State) (b : Byte) : (s.storeResult b).snb = s.snb := rfl
@[simp] theorem State.storeResult_snk (s : State) (b : Byte) : (s.storeResult b).snk = s.snk := rfl
@[simp] theorem State.storeResult_pending (s : State) (b : Byte) : (s.storeResult b).pending = s.pending := rfl
@[simp] theorem State.storeResult_inputs (s : State) (b : Byte) : (s.storeResult b).inputs = s.inputs := rfl
@[simp] theorem State.storeResult_responses (s : State) (b : Byte) : (s.storeResult b).responses = s.responses := rfl
@[simp] theorem State.storeResult_delay (s : State) (b : Byte) : (s.storeResult b).delay = s.delay := rfl
@[simp] theorem State.storeResult_draws (s : State) (b : Byte) : (s.storeResult b).draws = s.draws := rfl

/-! ### storeMsg -/

@[simp] theorem State.storeMsg_params (s : State) (m : Bytes) : (s.storeMsg m).params = s.params := rfl
@[simp] theorem State.storeMsg_irqEn (s : State) (m : Bytes) : (s.storeMsg m).irqEn = s.irqEn := rfl
@[simp] theorem State.storeMsg_nb (s : State) (m : Bytes) : (s.storeMsg m).nb = s.nb := rfl
@[simp] theorem State.storeMsg_nk (s : State) (m : Bytes) : (s.storeMsg m).nk = s.nk := rfl
@[simp] theorem State.storeMsg_cmd (s : State) (m : Bytes) : (s.storeMsg m).cmd = s.cmd := rfl
@[simp] theorem State.storeMsg_done (s : State) (m : Bytes) : (s.storeMsg m).done = s.done := rfl
@[simp] theorem State.storeMsg_keyValid (s : State) (m : Bytes) : (s.storeMsg m).keyValid = s.keyValid := rfl
@[simp] theorem State.storeMsg_ovr (s : State) (m : Bytes) : (s.storeMsg m).ovr = s.ovr := rfl
@[simp] theorem State.storeMsg_errCode (s : State) (m : Bytes) : (s.storeMsg m).errCode = s.errCode := rfl
@[simp] theorem State.storeMsg_result (s : State) (m : Bytes) : (s.storeMsg m).result = s.result := rfl
@[simp] theorem State.storeMsg_msgLen (s : State) (m : Bytes) : (s.storeMsg m).msgLen = s.msgLen := rfl
@[simp] theorem State.storeMsg_adLen (s : State) (m : Bytes) : (s.storeMsg m).adLen = s.adLen := rfl
@[simp] theorem State.storeMsg_key (s : State) (m : Bytes) : (s.storeMsg m).key = s.key := rfl
@[simp] theorem State.storeMsg_blk (s : State) (m : Bytes) : (s.storeMsg m).blk = s.blk := rfl
@[simp] theorem State.storeMsg_iv (s : State) (m : Bytes) : (s.storeMsg m).iv = s.iv := rfl
@[simp] theorem State.storeMsg_tag (s : State) (m : Bytes) : (s.storeMsg m).tag = s.tag := rfl
@[simp] theorem State.storeMsg_mem (s : State) (m : Bytes) : (s.storeMsg m).mem = s.mem.writeBytes msgBase m := rfl
@[simp] theorem State.storeMsg_w (s : State) (m : Bytes) : (s.storeMsg m).w = s.w := rfl
@[simp] theorem State.storeMsg_snb (s : State) (m : Bytes) : (s.storeMsg m).snb = s.snb := rfl
@[simp] theorem State.storeMsg_snk (s : State) (m : Bytes) : (s.storeMsg m).snk = s.snk := rfl
@[simp] theorem State.storeMsg_pending (s : State) (m : Bytes) : (s.storeMsg m).pending = s.pending := rfl
@[simp] theorem State.storeMsg_inputs (s : State) (m : Bytes) : (s.storeMsg m).inputs = s.inputs := rfl
@[simp] theorem State.storeMsg_responses (s : State) (m : Bytes) : (s.storeMsg m).responses = s.responses := rfl
@[simp] theorem State.storeMsg_delay (s : State) (m : Bytes) : (s.storeMsg m).delay = s.delay := rfl
@[simp] theorem State.storeMsg_draws (s : State) (m : Bytes) : (s.storeMsg m).draws = s.draws := rfl

/-! ### storeMsgLen -/

@[simp] theorem State.storeMsgLen_params (s : State) (n : Nat) : (s.storeMsgLen n).params = s.params := rfl
@[simp] theorem State.storeMsgLen_irqEn (s : State) (n : Nat) : (s.storeMsgLen n).irqEn = s.irqEn := rfl
@[simp] theorem State.storeMsgLen_nb (s : State) (n : Nat) : (s.storeMsgLen n).nb = s.nb := rfl
@[simp] theorem State.storeMsgLen_nk (s : State) (n : Nat) : (s.storeMsgLen n).nk = s.nk := rfl
@[simp] theorem State.storeMsgLen_cmd (s : State) (n : Nat) : (s.storeMsgLen n).cmd = s.cmd := rfl
@[simp] theorem State.storeMsgLen_done (s : State) (n : Nat) : (s.storeMsgLen n).done = s.done := rfl
@[simp] theorem State.storeMsgLen_keyValid (s : State) (n : Nat) : (s.storeMsgLen n).keyValid = s.keyValid := rfl
@[simp] theorem State.storeMsgLen_ovr (s : State) (n : Nat) : (s.storeMsgLen n).ovr = s.ovr := rfl
@[simp] theorem State.storeMsgLen_errCode (s : State) (n : Nat) : (s.storeMsgLen n).errCode = s.errCode := rfl
@[simp] theorem State.storeMsgLen_result (s : State) (n : Nat) : (s.storeMsgLen n).result = s.result := rfl
@[simp] theorem State.storeMsgLen_msgLen (s : State) (n : Nat) : (s.storeMsgLen n).msgLen = BitVec.ofNat 32 n := rfl
@[simp] theorem State.storeMsgLen_adLen (s : State) (n : Nat) : (s.storeMsgLen n).adLen = s.adLen := rfl
@[simp] theorem State.storeMsgLen_key (s : State) (n : Nat) : (s.storeMsgLen n).key = s.key := rfl
@[simp] theorem State.storeMsgLen_blk (s : State) (n : Nat) : (s.storeMsgLen n).blk = s.blk := rfl
@[simp] theorem State.storeMsgLen_iv (s : State) (n : Nat) : (s.storeMsgLen n).iv = s.iv := rfl
@[simp] theorem State.storeMsgLen_tag (s : State) (n : Nat) : (s.storeMsgLen n).tag = s.tag := rfl
@[simp] theorem State.storeMsgLen_mem (s : State) (n : Nat) : (s.storeMsgLen n).mem = s.mem := rfl
@[simp] theorem State.storeMsgLen_w (s : State) (n : Nat) : (s.storeMsgLen n).w = s.w := rfl
@[simp] theorem State.storeMsgLen_snb (s : State) (n : Nat) : (s.storeMsgLen n).snb = s.snb := rfl
@[simp] theorem State.storeMsgLen_snk (s : State) (n : Nat) : (s.storeMsgLen n).snk = s.snk := rfl
@[simp] theorem State.storeMsgLen_pending (s : State) (n : Nat) : (s.storeMsgLen n).pending = s.pending := rfl
@[simp] theorem State.storeMsgLen_inputs (s : State) (n : Nat) : (s.storeMsgLen n).inputs = s.inputs := rfl
@[simp] theorem State.storeMsgLen_responses (s : State) (n : Nat) : (s.storeMsgLen n).responses = s.responses := rfl
@[simp] theorem State.storeMsgLen_delay (s : State) (n : Nat) : (s.storeMsgLen n).delay = s.delay := rfl
@[simp] theorem State.storeMsgLen_draws (s : State) (n : Nat) : (s.storeMsgLen n).draws = s.draws := rfl

/-! ### zeroized -/

@[simp] theorem State.zeroized_params (s : State) : (s.zeroized).params = s.params := rfl
@[simp] theorem State.zeroized_irqEn (s : State) : (s.zeroized).irqEn = s.irqEn := rfl
@[simp] theorem State.zeroized_nb (s : State) : (s.zeroized).nb = s.nb := rfl
@[simp] theorem State.zeroized_nk (s : State) : (s.zeroized).nk = s.nk := rfl
@[simp] theorem State.zeroized_cmd (s : State) : (s.zeroized).cmd = s.cmd := rfl
@[simp] theorem State.zeroized_done (s : State) : (s.zeroized).done = s.done := rfl
@[simp] theorem State.zeroized_keyValid (s : State) : (s.zeroized).keyValid = false := rfl
@[simp] theorem State.zeroized_ovr (s : State) : (s.zeroized).ovr = s.ovr := rfl
@[simp] theorem State.zeroized_errCode (s : State) : (s.zeroized).errCode = s.errCode := rfl
@[simp] theorem State.zeroized_result (s : State) : (s.zeroized).result = 0 := rfl
@[simp] theorem State.zeroized_msgLen (s : State) : (s.zeroized).msgLen = 0 := rfl
@[simp] theorem State.zeroized_adLen (s : State) : (s.zeroized).adLen = 0 := rfl
@[simp] theorem State.zeroized_key (s : State) : (s.zeroized).key = Vector.replicate 32 0 := rfl
@[simp] theorem State.zeroized_blk (s : State) : (s.zeroized).blk = Vector.replicate 32 0 := rfl
@[simp] theorem State.zeroized_iv (s : State) : (s.zeroized).iv = Vector.replicate 32 0 := rfl
@[simp] theorem State.zeroized_tag (s : State) : (s.zeroized).tag = Vector.replicate 16 0 := rfl
@[simp] theorem State.zeroized_mem (s : State) : (s.zeroized).mem = [] := rfl
@[simp] theorem State.zeroized_w (s : State) : (s.zeroized).w = Vector.replicate 120 ⟨0, 0, 0, 0⟩ := rfl
@[simp] theorem State.zeroized_snb (s : State) : (s.zeroized).snb = 0 := rfl
@[simp] theorem State.zeroized_snk (s : State) : (s.zeroized).snk = 0 := rfl
@[simp] theorem State.zeroized_pending (s : State) : (s.zeroized).pending = s.pending := rfl
@[simp] theorem State.zeroized_inputs (s : State) : (s.zeroized).inputs = s.inputs := rfl
@[simp] theorem State.zeroized_responses (s : State) : (s.zeroized).responses = s.responses := rfl
@[simp] theorem State.zeroized_delay (s : State) : (s.zeroized).delay = s.delay := rfl
@[simp] theorem State.zeroized_draws (s : State) : (s.zeroized).draws = s.draws := rfl

/-! ### loadSchedule -/

@[simp] theorem State.loadSchedule_params (s : State) : (s.loadSchedule).params = s.params := rfl
@[simp] theorem State.loadSchedule_irqEn (s : State) : (s.loadSchedule).irqEn = s.irqEn := rfl
@[simp] theorem State.loadSchedule_nb (s : State) : (s.loadSchedule).nb = s.nb := rfl
@[simp] theorem State.loadSchedule_nk (s : State) : (s.loadSchedule).nk = s.nk := rfl
@[simp] theorem State.loadSchedule_cmd (s : State) : (s.loadSchedule).cmd = s.cmd := rfl
@[simp] theorem State.loadSchedule_done (s : State) : (s.loadSchedule).done = s.done := rfl
@[simp] theorem State.loadSchedule_keyValid (s : State) : (s.loadSchedule).keyValid = true := rfl
@[simp] theorem State.loadSchedule_ovr (s : State) : (s.loadSchedule).ovr = s.ovr := rfl
@[simp] theorem State.loadSchedule_errCode (s : State) : (s.loadSchedule).errCode = s.errCode := rfl
@[simp] theorem State.loadSchedule_result (s : State) : (s.loadSchedule).result = s.result := rfl
@[simp] theorem State.loadSchedule_msgLen (s : State) : (s.loadSchedule).msgLen = s.msgLen := rfl
@[simp] theorem State.loadSchedule_adLen (s : State) : (s.loadSchedule).adLen = s.adLen := rfl
@[simp] theorem State.loadSchedule_key (s : State) : (s.loadSchedule).key = s.key := rfl
@[simp] theorem State.loadSchedule_blk (s : State) : (s.loadSchedule).blk = s.blk := rfl
@[simp] theorem State.loadSchedule_iv (s : State) : (s.loadSchedule).iv = s.iv := rfl
@[simp] theorem State.loadSchedule_tag (s : State) : (s.loadSchedule).tag = s.tag := rfl
@[simp] theorem State.loadSchedule_mem (s : State) : (s.loadSchedule).mem = s.mem := rfl
@[simp] theorem State.loadSchedule_w (s : State) : (s.loadSchedule).w = scheduleOf s.key s.nb.toNat s.nk.toNat := rfl
@[simp] theorem State.loadSchedule_snb (s : State) : (s.loadSchedule).snb = s.nb := rfl
@[simp] theorem State.loadSchedule_snk (s : State) : (s.loadSchedule).snk = s.nk := rfl
@[simp] theorem State.loadSchedule_pending (s : State) : (s.loadSchedule).pending = s.pending := rfl
@[simp] theorem State.loadSchedule_inputs (s : State) : (s.loadSchedule).inputs = s.inputs := rfl
@[simp] theorem State.loadSchedule_responses (s : State) : (s.loadSchedule).responses = s.responses := rfl
@[simp] theorem State.loadSchedule_delay (s : State) : (s.loadSchedule).delay = s.delay := rfl
@[simp] theorem State.loadSchedule_draws (s : State) : (s.loadSchedule).draws = s.draws := rfl

/-! ### complete -/

@[simp] theorem State.complete_params (s : State) (e : ErrorCode) : (s.complete e).params = s.params := rfl
@[simp] theorem State.complete_irqEn (s : State) (e : ErrorCode) : (s.complete e).irqEn = s.irqEn := rfl
@[simp] theorem State.complete_nb (s : State) (e : ErrorCode) : (s.complete e).nb = s.nb := rfl
@[simp] theorem State.complete_nk (s : State) (e : ErrorCode) : (s.complete e).nk = s.nk := rfl
@[simp] theorem State.complete_cmd (s : State) (e : ErrorCode) : (s.complete e).cmd = s.cmd := rfl
@[simp] theorem State.complete_done (s : State) (e : ErrorCode) : (s.complete e).done = true := rfl
@[simp] theorem State.complete_keyValid (s : State) (e : ErrorCode) : (s.complete e).keyValid = s.keyValid := rfl
@[simp] theorem State.complete_ovr (s : State) (e : ErrorCode) : (s.complete e).ovr = s.ovr := rfl
@[simp] theorem State.complete_errCode (s : State) (e : ErrorCode) : (s.complete e).errCode = e := rfl
@[simp] theorem State.complete_result (s : State) (e : ErrorCode) : (s.complete e).result = s.result := rfl
@[simp] theorem State.complete_msgLen (s : State) (e : ErrorCode) : (s.complete e).msgLen = s.msgLen := rfl
@[simp] theorem State.complete_adLen (s : State) (e : ErrorCode) : (s.complete e).adLen = s.adLen := rfl
@[simp] theorem State.complete_key (s : State) (e : ErrorCode) : (s.complete e).key = s.key := rfl
@[simp] theorem State.complete_blk (s : State) (e : ErrorCode) : (s.complete e).blk = s.blk := rfl
@[simp] theorem State.complete_iv (s : State) (e : ErrorCode) : (s.complete e).iv = s.iv := rfl
@[simp] theorem State.complete_tag (s : State) (e : ErrorCode) : (s.complete e).tag = s.tag := rfl
@[simp] theorem State.complete_mem (s : State) (e : ErrorCode) : (s.complete e).mem = s.mem := rfl
@[simp] theorem State.complete_w (s : State) (e : ErrorCode) : (s.complete e).w = s.w := rfl
@[simp] theorem State.complete_snb (s : State) (e : ErrorCode) : (s.complete e).snb = s.snb := rfl
@[simp] theorem State.complete_snk (s : State) (e : ErrorCode) : (s.complete e).snk = s.snk := rfl
@[simp] theorem State.complete_pending (s : State) (e : ErrorCode) : (s.complete e).pending = .idle := rfl
@[simp] theorem State.complete_inputs (s : State) (e : ErrorCode) : (s.complete e).inputs = s.inputs := rfl
@[simp] theorem State.complete_responses (s : State) (e : ErrorCode) : (s.complete e).responses = s.responses := rfl
@[simp] theorem State.complete_delay (s : State) (e : ErrorCode) : (s.complete e).delay = s.delay := rfl
@[simp] theorem State.complete_draws (s : State) (e : ErrorCode) : (s.complete e).draws = s.draws := rfl

/-! ### fail -/

@[simp] theorem State.fail_params (s : State) (e : ErrorCode) : (s.fail e).params = s.params := rfl
@[simp] theorem State.fail_irqEn (s : State) (e : ErrorCode) : (s.fail e).irqEn = s.irqEn := rfl
@[simp] theorem State.fail_nb (s : State) (e : ErrorCode) : (s.fail e).nb = s.nb := rfl
@[simp] theorem State.fail_nk (s : State) (e : ErrorCode) : (s.fail e).nk = s.nk := rfl
@[simp] theorem State.fail_cmd (s : State) (e : ErrorCode) : (s.fail e).cmd = s.cmd := rfl
@[simp] theorem State.fail_done (s : State) (e : ErrorCode) : (s.fail e).done = true := rfl
@[simp] theorem State.fail_keyValid (s : State) (e : ErrorCode) : (s.fail e).keyValid = s.keyValid := rfl
@[simp] theorem State.fail_ovr (s : State) (e : ErrorCode) : (s.fail e).ovr = s.ovr := rfl
@[simp] theorem State.fail_errCode (s : State) (e : ErrorCode) : (s.fail e).errCode = e := rfl
@[simp] theorem State.fail_result (s : State) (e : ErrorCode) : (s.fail e).result = s.result := rfl
@[simp] theorem State.fail_msgLen (s : State) (e : ErrorCode) : (s.fail e).msgLen = s.msgLen := rfl
@[simp] theorem State.fail_adLen (s : State) (e : ErrorCode) : (s.fail e).adLen = s.adLen := rfl
@[simp] theorem State.fail_key (s : State) (e : ErrorCode) : (s.fail e).key = s.key := rfl
@[simp] theorem State.fail_blk (s : State) (e : ErrorCode) : (s.fail e).blk = s.blk := rfl
@[simp] theorem State.fail_iv (s : State) (e : ErrorCode) : (s.fail e).iv = s.iv := rfl
@[simp] theorem State.fail_tag (s : State) (e : ErrorCode) : (s.fail e).tag = s.tag := rfl
@[simp] theorem State.fail_mem (s : State) (e : ErrorCode) : (s.fail e).mem = s.mem := rfl
@[simp] theorem State.fail_w (s : State) (e : ErrorCode) : (s.fail e).w = s.w := rfl
@[simp] theorem State.fail_snb (s : State) (e : ErrorCode) : (s.fail e).snb = s.snb := rfl
@[simp] theorem State.fail_snk (s : State) (e : ErrorCode) : (s.fail e).snk = s.snk := rfl
@[simp] theorem State.fail_pending (s : State) (e : ErrorCode) : (s.fail e).pending = .idle := rfl
@[simp] theorem State.fail_inputs (s : State) (e : ErrorCode) : (s.fail e).inputs = s.inputs := rfl
@[simp] theorem State.fail_responses (s : State) (e : ErrorCode) : (s.fail e).responses = s.responses := rfl
@[simp] theorem State.fail_delay (s : State) (e : ErrorCode) : (s.fail e).delay = s.delay := rfl
@[simp] theorem State.fail_draws (s : State) (e : ErrorCode) : (s.fail e).draws = s.draws := rfl

/-! ### finishResetClear -/

@[simp] theorem State.finishResetClear_params (s : State) : (s.finishResetClear).params = s.params := rfl
@[simp] theorem State.finishResetClear_irqEn (s : State) : (s.finishResetClear).irqEn = s.irqEn := rfl
@[simp] theorem State.finishResetClear_nb (s : State) : (s.finishResetClear).nb = s.nb := rfl
@[simp] theorem State.finishResetClear_nk (s : State) : (s.finishResetClear).nk = s.nk := rfl
@[simp] theorem State.finishResetClear_cmd (s : State) : (s.finishResetClear).cmd = s.cmd := rfl
@[simp] theorem State.finishResetClear_done (s : State) : (s.finishResetClear).done = s.done := rfl
@[simp] theorem State.finishResetClear_keyValid (s : State) : (s.finishResetClear).keyValid = s.keyValid := rfl
@[simp] theorem State.finishResetClear_ovr (s : State) : (s.finishResetClear).ovr = s.ovr := rfl
@[simp] theorem State.finishResetClear_errCode (s : State) : (s.finishResetClear).errCode = s.errCode := rfl
@[simp] theorem State.finishResetClear_result (s : State) : (s.finishResetClear).result = s.result := rfl
@[simp] theorem State.finishResetClear_msgLen (s : State) : (s.finishResetClear).msgLen = s.msgLen := rfl
@[simp] theorem State.finishResetClear_adLen (s : State) : (s.finishResetClear).adLen = s.adLen := rfl
@[simp] theorem State.finishResetClear_key (s : State) : (s.finishResetClear).key = s.key := rfl
@[simp] theorem State.finishResetClear_blk (s : State) : (s.finishResetClear).blk = s.blk := rfl
@[simp] theorem State.finishResetClear_iv (s : State) : (s.finishResetClear).iv = s.iv := rfl
@[simp] theorem State.finishResetClear_tag (s : State) : (s.finishResetClear).tag = s.tag := rfl
@[simp] theorem State.finishResetClear_mem (s : State) : (s.finishResetClear).mem = s.mem := rfl
@[simp] theorem State.finishResetClear_w (s : State) : (s.finishResetClear).w = s.w := rfl
@[simp] theorem State.finishResetClear_snb (s : State) : (s.finishResetClear).snb = s.snb := rfl
@[simp] theorem State.finishResetClear_snk (s : State) : (s.finishResetClear).snk = s.snk := rfl
@[simp] theorem State.finishResetClear_pending (s : State) : (s.finishResetClear).pending = .idle := rfl
@[simp] theorem State.finishResetClear_inputs (s : State) : (s.finishResetClear).inputs = s.inputs := rfl
@[simp] theorem State.finishResetClear_responses (s : State) : (s.finishResetClear).responses = s.responses := rfl
@[simp] theorem State.finishResetClear_delay (s : State) : (s.finishResetClear).delay = s.delay := rfl
@[simp] theorem State.finishResetClear_draws (s : State) : (s.finishResetClear).draws = s.draws := rfl

/-! ### latch -/

@[simp] theorem State.latch_params (s : State) (v : Word) : (s.latch v).params = s.params := rfl
@[simp] theorem State.latch_irqEn (s : State) (v : Word) : (s.latch v).irqEn = s.irqEn := rfl
@[simp] theorem State.latch_nb (s : State) (v : Word) : (s.latch v).nb = s.nb := rfl
@[simp] theorem State.latch_nk (s : State) (v : Word) : (s.latch v).nk = s.nk := rfl
@[simp] theorem State.latch_cmd (s : State) (v : Word) : (s.latch v).cmd = v := rfl
@[simp] theorem State.latch_done (s : State) (v : Word) : (s.latch v).done = false := rfl
@[simp] theorem State.latch_keyValid (s : State) (v : Word) : (s.latch v).keyValid = s.keyValid := rfl
@[simp] theorem State.latch_ovr (s : State) (v : Word) : (s.latch v).ovr = s.ovr := rfl
@[simp] theorem State.latch_errCode (s : State) (v : Word) : (s.latch v).errCode = .noError := rfl
@[simp] theorem State.latch_result (s : State) (v : Word) : (s.latch v).result = s.result := rfl
@[simp] theorem State.latch_msgLen (s : State) (v : Word) : (s.latch v).msgLen = s.msgLen := rfl
@[simp] theorem State.latch_adLen (s : State) (v : Word) : (s.latch v).adLen = s.adLen := rfl
@[simp] theorem State.latch_key (s : State) (v : Word) : (s.latch v).key = s.key := rfl
@[simp] theorem State.latch_blk (s : State) (v : Word) : (s.latch v).blk = s.blk := rfl
@[simp] theorem State.latch_iv (s : State) (v : Word) : (s.latch v).iv = s.iv := rfl
@[simp] theorem State.latch_tag (s : State) (v : Word) : (s.latch v).tag = s.tag := rfl
@[simp] theorem State.latch_mem (s : State) (v : Word) : (s.latch v).mem = s.mem := rfl
@[simp] theorem State.latch_w (s : State) (v : Word) : (s.latch v).w = s.w := rfl
@[simp] theorem State.latch_snb (s : State) (v : Word) : (s.latch v).snb = s.snb := rfl
@[simp] theorem State.latch_snk (s : State) (v : Word) : (s.latch v).snk = s.snk := rfl
@[simp] theorem State.latch_pending (s : State) (v : Word) : (s.latch v).pending = .command v := rfl
@[simp] theorem State.latch_inputs (s : State) (v : Word) : (s.latch v).inputs = s.inputs := rfl
@[simp] theorem State.latch_responses (s : State) (v : Word) : (s.latch v).responses = s.responses := rfl
@[simp] theorem State.latch_delay (s : State) (v : Word) : (s.latch v).delay = s.delay := rfl
@[simp] theorem State.latch_draws (s : State) (v : Word) : (s.latch v).draws = s.draws := rfl

/-! ### armEngine -/

@[simp] theorem State.armEngine_params (s : State) : (s.armEngine).params = s.params := rfl
@[simp] theorem State.armEngine_irqEn (s : State) : (s.armEngine).irqEn = s.irqEn := rfl
@[simp] theorem State.armEngine_nb (s : State) : (s.armEngine).nb = s.nb := rfl
@[simp] theorem State.armEngine_nk (s : State) : (s.armEngine).nk = s.nk := rfl
@[simp] theorem State.armEngine_cmd (s : State) : (s.armEngine).cmd = s.cmd := rfl
@[simp] theorem State.armEngine_done (s : State) : (s.armEngine).done = s.done := rfl
@[simp] theorem State.armEngine_keyValid (s : State) : (s.armEngine).keyValid = s.keyValid := rfl
@[simp] theorem State.armEngine_ovr (s : State) : (s.armEngine).ovr = s.ovr := rfl
@[simp] theorem State.armEngine_errCode (s : State) : (s.armEngine).errCode = s.errCode := rfl
@[simp] theorem State.armEngine_result (s : State) : (s.armEngine).result = s.result := rfl
@[simp] theorem State.armEngine_msgLen (s : State) : (s.armEngine).msgLen = s.msgLen := rfl
@[simp] theorem State.armEngine_adLen (s : State) : (s.armEngine).adLen = s.adLen := rfl
@[simp] theorem State.armEngine_key (s : State) : (s.armEngine).key = s.key := rfl
@[simp] theorem State.armEngine_blk (s : State) : (s.armEngine).blk = s.blk := rfl
@[simp] theorem State.armEngine_iv (s : State) : (s.armEngine).iv = s.iv := rfl
@[simp] theorem State.armEngine_tag (s : State) : (s.armEngine).tag = s.tag := rfl
@[simp] theorem State.armEngine_mem (s : State) : (s.armEngine).mem = s.mem := rfl
@[simp] theorem State.armEngine_w (s : State) : (s.armEngine).w = s.w := rfl
@[simp] theorem State.armEngine_snb (s : State) : (s.armEngine).snb = s.snb := rfl
@[simp] theorem State.armEngine_snk (s : State) : (s.armEngine).snk = s.snk := rfl
@[simp] theorem State.armEngine_pending (s : State) : (s.armEngine).pending = s.pending := rfl
@[simp] theorem State.armEngine_inputs (s : State) : (s.armEngine).inputs = s.inputs := rfl
@[simp] theorem State.armEngine_responses (s : State) : (s.armEngine).responses = s.responses := rfl
@[simp] theorem State.armEngine_delay (s : State) : (s.armEngine).delay = Config.latency s.draws s := rfl
@[simp] theorem State.armEngine_draws (s : State) : (s.armEngine).draws = s.draws + 1 := rfl

/-! ### accept -/

@[simp] theorem State.accept_params (s : State) (v : Word) : (s.accept v).params = s.params := rfl
@[simp] theorem State.accept_irqEn (s : State) (v : Word) : (s.accept v).irqEn = s.irqEn := rfl
@[simp] theorem State.accept_nb (s : State) (v : Word) : (s.accept v).nb = s.nb := rfl
@[simp] theorem State.accept_nk (s : State) (v : Word) : (s.accept v).nk = s.nk := rfl
@[simp] theorem State.accept_cmd (s : State) (v : Word) : (s.accept v).cmd = v := rfl
@[simp] theorem State.accept_done (s : State) (v : Word) : (s.accept v).done = false := rfl
@[simp] theorem State.accept_keyValid (s : State) (v : Word) : (s.accept v).keyValid = s.keyValid := rfl
@[simp] theorem State.accept_ovr (s : State) (v : Word) : (s.accept v).ovr = s.ovr := rfl
@[simp] theorem State.accept_errCode (s : State) (v : Word) : (s.accept v).errCode = .noError := rfl
@[simp] theorem State.accept_result (s : State) (v : Word) : (s.accept v).result = s.result := rfl
@[simp] theorem State.accept_msgLen (s : State) (v : Word) : (s.accept v).msgLen = s.msgLen := rfl
@[simp] theorem State.accept_adLen (s : State) (v : Word) : (s.accept v).adLen = s.adLen := rfl
@[simp] theorem State.accept_key (s : State) (v : Word) : (s.accept v).key = s.key := rfl
@[simp] theorem State.accept_blk (s : State) (v : Word) : (s.accept v).blk = s.blk := rfl
@[simp] theorem State.accept_iv (s : State) (v : Word) : (s.accept v).iv = s.iv := rfl
@[simp] theorem State.accept_tag (s : State) (v : Word) : (s.accept v).tag = s.tag := rfl
@[simp] theorem State.accept_mem (s : State) (v : Word) : (s.accept v).mem = s.mem := rfl
@[simp] theorem State.accept_w (s : State) (v : Word) : (s.accept v).w = s.w := rfl
@[simp] theorem State.accept_snb (s : State) (v : Word) : (s.accept v).snb = s.snb := rfl
@[simp] theorem State.accept_snk (s : State) (v : Word) : (s.accept v).snk = s.snk := rfl
@[simp] theorem State.accept_pending (s : State) (v : Word) : (s.accept v).pending = .command v := rfl
@[simp] theorem State.accept_inputs (s : State) (v : Word) : (s.accept v).inputs = s.inputs := rfl
@[simp] theorem State.accept_responses (s : State) (v : Word) : (s.accept v).responses = s.responses := rfl
@[simp] theorem State.accept_delay (s : State) (v : Word) :
    (s.accept v).delay = Config.latency s.draws (s.latch v) := rfl
@[simp] theorem State.accept_draws (s : State) (v : Word) : (s.accept v).draws = s.draws + 1 := rfl

/-! ### issued -/

@[simp] theorem State.issued_params (s : State) (v : Word) : (s.issued v).params = s.params := rfl
@[simp] theorem State.issued_irqEn (s : State) (v : Word) : (s.issued v).irqEn = s.irqEn := rfl
@[simp] theorem State.issued_nb (s : State) (v : Word) : (s.issued v).nb = s.nb := rfl
@[simp] theorem State.issued_nk (s : State) (v : Word) : (s.issued v).nk = s.nk := rfl
@[simp] theorem State.issued_cmd (s : State) (v : Word) : (s.issued v).cmd = v := rfl
@[simp] theorem State.issued_done (s : State) (v : Word) : (s.issued v).done = false := rfl
@[simp] theorem State.issued_keyValid (s : State) (v : Word) : (s.issued v).keyValid = s.keyValid := rfl
@[simp] theorem State.issued_ovr (s : State) (v : Word) : (s.issued v).ovr = s.ovr := rfl
@[simp] theorem State.issued_errCode (s : State) (v : Word) : (s.issued v).errCode = .noError := rfl
@[simp] theorem State.issued_result (s : State) (v : Word) : (s.issued v).result = s.result := rfl
@[simp] theorem State.issued_msgLen (s : State) (v : Word) : (s.issued v).msgLen = s.msgLen := rfl
@[simp] theorem State.issued_adLen (s : State) (v : Word) : (s.issued v).adLen = s.adLen := rfl
@[simp] theorem State.issued_key (s : State) (v : Word) : (s.issued v).key = s.key := rfl
@[simp] theorem State.issued_blk (s : State) (v : Word) : (s.issued v).blk = s.blk := rfl
@[simp] theorem State.issued_iv (s : State) (v : Word) : (s.issued v).iv = s.iv := rfl
@[simp] theorem State.issued_tag (s : State) (v : Word) : (s.issued v).tag = s.tag := rfl
@[simp] theorem State.issued_mem (s : State) (v : Word) : (s.issued v).mem = s.mem := rfl
@[simp] theorem State.issued_w (s : State) (v : Word) : (s.issued v).w = s.w := rfl
@[simp] theorem State.issued_snb (s : State) (v : Word) : (s.issued v).snb = s.snb := rfl
@[simp] theorem State.issued_snk (s : State) (v : Word) : (s.issued v).snk = s.snk := rfl
@[simp] theorem State.issued_pending (s : State) (v : Word) : (s.issued v).pending = .command v := rfl
@[simp] theorem State.issued_inputs (s : State) (v : Word) : (s.issued v).inputs = s.inputs := rfl
@[simp] theorem State.issued_responses (s : State) (v : Word) : (s.issued v).responses = s.responses := rfl
@[simp] theorem State.issued_delay (s : State) (v : Word) : (s.issued v).delay = 0 := rfl
@[simp] theorem State.issued_draws (s : State) (v : Word) : (s.issued v).draws = s.draws := rfl

/-! ### setOvr -/

@[simp] theorem State.setOvr_params (s : State) : (s.setOvr).params = s.params := rfl
@[simp] theorem State.setOvr_irqEn (s : State) : (s.setOvr).irqEn = s.irqEn := rfl
@[simp] theorem State.setOvr_nb (s : State) : (s.setOvr).nb = s.nb := rfl
@[simp] theorem State.setOvr_nk (s : State) : (s.setOvr).nk = s.nk := rfl
@[simp] theorem State.setOvr_cmd (s : State) : (s.setOvr).cmd = s.cmd := rfl
@[simp] theorem State.setOvr_done (s : State) : (s.setOvr).done = s.done := rfl
@[simp] theorem State.setOvr_keyValid (s : State) : (s.setOvr).keyValid = s.keyValid := rfl
@[simp] theorem State.setOvr_ovr (s : State) : (s.setOvr).ovr = true := rfl
@[simp] theorem State.setOvr_errCode (s : State) : (s.setOvr).errCode = s.errCode := rfl
@[simp] theorem State.setOvr_result (s : State) : (s.setOvr).result = s.result := rfl
@[simp] theorem State.setOvr_msgLen (s : State) : (s.setOvr).msgLen = s.msgLen := rfl
@[simp] theorem State.setOvr_adLen (s : State) : (s.setOvr).adLen = s.adLen := rfl
@[simp] theorem State.setOvr_key (s : State) : (s.setOvr).key = s.key := rfl
@[simp] theorem State.setOvr_blk (s : State) : (s.setOvr).blk = s.blk := rfl
@[simp] theorem State.setOvr_iv (s : State) : (s.setOvr).iv = s.iv := rfl
@[simp] theorem State.setOvr_tag (s : State) : (s.setOvr).tag = s.tag := rfl
@[simp] theorem State.setOvr_mem (s : State) : (s.setOvr).mem = s.mem := rfl
@[simp] theorem State.setOvr_w (s : State) : (s.setOvr).w = s.w := rfl
@[simp] theorem State.setOvr_snb (s : State) : (s.setOvr).snb = s.snb := rfl
@[simp] theorem State.setOvr_snk (s : State) : (s.setOvr).snk = s.snk := rfl
@[simp] theorem State.setOvr_pending (s : State) : (s.setOvr).pending = s.pending := rfl
@[simp] theorem State.setOvr_inputs (s : State) : (s.setOvr).inputs = s.inputs := rfl
@[simp] theorem State.setOvr_responses (s : State) : (s.setOvr).responses = s.responses := rfl
@[simp] theorem State.setOvr_delay (s : State) : (s.setOvr).delay = s.delay := rfl
@[simp] theorem State.setOvr_draws (s : State) : (s.setOvr).draws = s.draws := rfl

/-! ### writeStatus -/

@[simp] theorem State.writeStatus_params (s : State) (v : Word) : (s.writeStatus v).params = s.params := rfl
@[simp] theorem State.writeStatus_irqEn (s : State) (v : Word) : (s.writeStatus v).irqEn = s.irqEn := rfl
@[simp] theorem State.writeStatus_nb (s : State) (v : Word) : (s.writeStatus v).nb = s.nb := rfl
@[simp] theorem State.writeStatus_nk (s : State) (v : Word) : (s.writeStatus v).nk = s.nk := rfl
@[simp] theorem State.writeStatus_cmd (s : State) (v : Word) : (s.writeStatus v).cmd = s.cmd := rfl
@[simp] theorem State.writeStatus_done (s : State) (v : Word) : (s.writeStatus v).done = (s.done && !v.getLsbD 1) := rfl
@[simp] theorem State.writeStatus_keyValid (s : State) (v : Word) : (s.writeStatus v).keyValid = s.keyValid := rfl
@[simp] theorem State.writeStatus_ovr (s : State) (v : Word) : (s.writeStatus v).ovr = (s.ovr && !v.getLsbD 4) := rfl
@[simp] theorem State.writeStatus_errCode (s : State) (v : Word) : (s.writeStatus v).errCode = s.errCode := rfl
@[simp] theorem State.writeStatus_result (s : State) (v : Word) : (s.writeStatus v).result = s.result := rfl
@[simp] theorem State.writeStatus_msgLen (s : State) (v : Word) : (s.writeStatus v).msgLen = s.msgLen := rfl
@[simp] theorem State.writeStatus_adLen (s : State) (v : Word) : (s.writeStatus v).adLen = s.adLen := rfl
@[simp] theorem State.writeStatus_key (s : State) (v : Word) : (s.writeStatus v).key = s.key := rfl
@[simp] theorem State.writeStatus_blk (s : State) (v : Word) : (s.writeStatus v).blk = s.blk := rfl
@[simp] theorem State.writeStatus_iv (s : State) (v : Word) : (s.writeStatus v).iv = s.iv := rfl
@[simp] theorem State.writeStatus_tag (s : State) (v : Word) : (s.writeStatus v).tag = s.tag := rfl
@[simp] theorem State.writeStatus_mem (s : State) (v : Word) : (s.writeStatus v).mem = s.mem := rfl
@[simp] theorem State.writeStatus_w (s : State) (v : Word) : (s.writeStatus v).w = s.w := rfl
@[simp] theorem State.writeStatus_snb (s : State) (v : Word) : (s.writeStatus v).snb = s.snb := rfl
@[simp] theorem State.writeStatus_snk (s : State) (v : Word) : (s.writeStatus v).snk = s.snk := rfl
@[simp] theorem State.writeStatus_pending (s : State) (v : Word) : (s.writeStatus v).pending = s.pending := rfl
@[simp] theorem State.writeStatus_inputs (s : State) (v : Word) : (s.writeStatus v).inputs = s.inputs := rfl
@[simp] theorem State.writeStatus_responses (s : State) (v : Word) : (s.writeStatus v).responses = s.responses := rfl
@[simp] theorem State.writeStatus_delay (s : State) (v : Word) : (s.writeStatus v).delay = s.delay := rfl
@[simp] theorem State.writeStatus_draws (s : State) (v : Word) : (s.writeStatus v).draws = s.draws := rfl

/-! ### writeCfg -/

@[simp] theorem State.writeCfg_params (s : State) (v : Word) : (s.writeCfg v).params = s.params := rfl
@[simp] theorem State.writeCfg_irqEn (s : State) (v : Word) : (s.writeCfg v).irqEn = s.irqEn := rfl
@[simp] theorem State.writeCfg_nb (s : State) (v : Word) : (s.writeCfg v).nb = v.extractLsb' 0 4 := rfl
@[simp] theorem State.writeCfg_nk (s : State) (v : Word) : (s.writeCfg v).nk = v.extractLsb' 4 4 := rfl
@[simp] theorem State.writeCfg_cmd (s : State) (v : Word) : (s.writeCfg v).cmd = s.cmd := rfl
@[simp] theorem State.writeCfg_done (s : State) (v : Word) : (s.writeCfg v).done = s.done := rfl
@[simp] theorem State.writeCfg_keyValid (s : State) (v : Word) : (s.writeCfg v).keyValid = false := rfl
@[simp] theorem State.writeCfg_ovr (s : State) (v : Word) : (s.writeCfg v).ovr = s.ovr := rfl
@[simp] theorem State.writeCfg_errCode (s : State) (v : Word) : (s.writeCfg v).errCode = s.errCode := rfl
@[simp] theorem State.writeCfg_result (s : State) (v : Word) : (s.writeCfg v).result = s.result := rfl
@[simp] theorem State.writeCfg_msgLen (s : State) (v : Word) : (s.writeCfg v).msgLen = s.msgLen := rfl
@[simp] theorem State.writeCfg_adLen (s : State) (v : Word) : (s.writeCfg v).adLen = s.adLen := rfl
@[simp] theorem State.writeCfg_key (s : State) (v : Word) : (s.writeCfg v).key = s.key := rfl
@[simp] theorem State.writeCfg_blk (s : State) (v : Word) : (s.writeCfg v).blk = s.blk := rfl
@[simp] theorem State.writeCfg_iv (s : State) (v : Word) : (s.writeCfg v).iv = s.iv := rfl
@[simp] theorem State.writeCfg_tag (s : State) (v : Word) : (s.writeCfg v).tag = s.tag := rfl
@[simp] theorem State.writeCfg_mem (s : State) (v : Word) : (s.writeCfg v).mem = s.mem := rfl
@[simp] theorem State.writeCfg_w (s : State) (v : Word) : (s.writeCfg v).w = s.w := rfl
@[simp] theorem State.writeCfg_snb (s : State) (v : Word) : (s.writeCfg v).snb = s.snb := rfl
@[simp] theorem State.writeCfg_snk (s : State) (v : Word) : (s.writeCfg v).snk = s.snk := rfl
@[simp] theorem State.writeCfg_pending (s : State) (v : Word) : (s.writeCfg v).pending = s.pending := rfl
@[simp] theorem State.writeCfg_inputs (s : State) (v : Word) : (s.writeCfg v).inputs = s.inputs := rfl
@[simp] theorem State.writeCfg_responses (s : State) (v : Word) : (s.writeCfg v).responses = s.responses := rfl
@[simp] theorem State.writeCfg_delay (s : State) (v : Word) : (s.writeCfg v).delay = s.delay := rfl
@[simp] theorem State.writeCfg_draws (s : State) (v : Word) : (s.writeCfg v).draws = s.draws := rfl

/-! ### writeKey -/

@[simp] theorem State.writeKey_params (s : State) (k : Nat) (v : Word) : (s.writeKey k v).params = s.params := rfl
@[simp] theorem State.writeKey_irqEn (s : State) (k : Nat) (v : Word) : (s.writeKey k v).irqEn = s.irqEn := rfl
@[simp] theorem State.writeKey_nb (s : State) (k : Nat) (v : Word) : (s.writeKey k v).nb = s.nb := rfl
@[simp] theorem State.writeKey_nk (s : State) (k : Nat) (v : Word) : (s.writeKey k v).nk = s.nk := rfl
@[simp] theorem State.writeKey_cmd (s : State) (k : Nat) (v : Word) : (s.writeKey k v).cmd = s.cmd := rfl
@[simp] theorem State.writeKey_done (s : State) (k : Nat) (v : Word) : (s.writeKey k v).done = s.done := rfl
@[simp] theorem State.writeKey_keyValid (s : State) (k : Nat) (v : Word) : (s.writeKey k v).keyValid = false := rfl
@[simp] theorem State.writeKey_ovr (s : State) (k : Nat) (v : Word) : (s.writeKey k v).ovr = s.ovr := rfl
@[simp] theorem State.writeKey_errCode (s : State) (k : Nat) (v : Word) : (s.writeKey k v).errCode = s.errCode := rfl
@[simp] theorem State.writeKey_result (s : State) (k : Nat) (v : Word) : (s.writeKey k v).result = s.result := rfl
@[simp] theorem State.writeKey_msgLen (s : State) (k : Nat) (v : Word) : (s.writeKey k v).msgLen = s.msgLen := rfl
@[simp] theorem State.writeKey_adLen (s : State) (k : Nat) (v : Word) : (s.writeKey k v).adLen = s.adLen := rfl
@[simp] theorem State.writeKey_key (s : State) (k : Nat) (v : Word) : (s.writeKey k v).key = setWordOf s.key k v := rfl
@[simp] theorem State.writeKey_blk (s : State) (k : Nat) (v : Word) : (s.writeKey k v).blk = s.blk := rfl
@[simp] theorem State.writeKey_iv (s : State) (k : Nat) (v : Word) : (s.writeKey k v).iv = s.iv := rfl
@[simp] theorem State.writeKey_tag (s : State) (k : Nat) (v : Word) : (s.writeKey k v).tag = s.tag := rfl
@[simp] theorem State.writeKey_mem (s : State) (k : Nat) (v : Word) : (s.writeKey k v).mem = s.mem := rfl
@[simp] theorem State.writeKey_w (s : State) (k : Nat) (v : Word) : (s.writeKey k v).w = s.w := rfl
@[simp] theorem State.writeKey_snb (s : State) (k : Nat) (v : Word) : (s.writeKey k v).snb = s.snb := rfl
@[simp] theorem State.writeKey_snk (s : State) (k : Nat) (v : Word) : (s.writeKey k v).snk = s.snk := rfl
@[simp] theorem State.writeKey_pending (s : State) (k : Nat) (v : Word) : (s.writeKey k v).pending = s.pending := rfl
@[simp] theorem State.writeKey_inputs (s : State) (k : Nat) (v : Word) : (s.writeKey k v).inputs = s.inputs := rfl
@[simp] theorem State.writeKey_responses (s : State) (k : Nat) (v : Word) :
    (s.writeKey k v).responses = s.responses := rfl
@[simp] theorem State.writeKey_delay (s : State) (k : Nat) (v : Word) : (s.writeKey k v).delay = s.delay := rfl
@[simp] theorem State.writeKey_draws (s : State) (k : Nat) (v : Word) : (s.writeKey k v).draws = s.draws := rfl

/-! ### takeMove -/

@[simp] theorem State.takeMove_params (s : State) (rest : List Move) : (s.takeMove rest).params = s.params := rfl
@[simp] theorem State.takeMove_irqEn (s : State) (rest : List Move) : (s.takeMove rest).irqEn = s.irqEn := rfl
@[simp] theorem State.takeMove_nb (s : State) (rest : List Move) : (s.takeMove rest).nb = s.nb := rfl
@[simp] theorem State.takeMove_nk (s : State) (rest : List Move) : (s.takeMove rest).nk = s.nk := rfl
@[simp] theorem State.takeMove_cmd (s : State) (rest : List Move) : (s.takeMove rest).cmd = s.cmd := rfl
@[simp] theorem State.takeMove_done (s : State) (rest : List Move) : (s.takeMove rest).done = s.done := rfl
@[simp] theorem State.takeMove_keyValid (s : State) (rest : List Move) : (s.takeMove rest).keyValid = s.keyValid := rfl
@[simp] theorem State.takeMove_ovr (s : State) (rest : List Move) : (s.takeMove rest).ovr = s.ovr := rfl
@[simp] theorem State.takeMove_errCode (s : State) (rest : List Move) : (s.takeMove rest).errCode = s.errCode := rfl
@[simp] theorem State.takeMove_result (s : State) (rest : List Move) : (s.takeMove rest).result = s.result := rfl
@[simp] theorem State.takeMove_msgLen (s : State) (rest : List Move) : (s.takeMove rest).msgLen = s.msgLen := rfl
@[simp] theorem State.takeMove_adLen (s : State) (rest : List Move) : (s.takeMove rest).adLen = s.adLen := rfl
@[simp] theorem State.takeMove_key (s : State) (rest : List Move) : (s.takeMove rest).key = s.key := rfl
@[simp] theorem State.takeMove_blk (s : State) (rest : List Move) : (s.takeMove rest).blk = s.blk := rfl
@[simp] theorem State.takeMove_iv (s : State) (rest : List Move) : (s.takeMove rest).iv = s.iv := rfl
@[simp] theorem State.takeMove_tag (s : State) (rest : List Move) : (s.takeMove rest).tag = s.tag := rfl
@[simp] theorem State.takeMove_mem (s : State) (rest : List Move) : (s.takeMove rest).mem = s.mem := rfl
@[simp] theorem State.takeMove_w (s : State) (rest : List Move) : (s.takeMove rest).w = s.w := rfl
@[simp] theorem State.takeMove_snb (s : State) (rest : List Move) : (s.takeMove rest).snb = s.snb := rfl
@[simp] theorem State.takeMove_snk (s : State) (rest : List Move) : (s.takeMove rest).snk = s.snk := rfl
@[simp] theorem State.takeMove_pending (s : State) (rest : List Move) : (s.takeMove rest).pending = s.pending := rfl
@[simp] theorem State.takeMove_inputs (s : State) (rest : List Move) : (s.takeMove rest).inputs = rest := rfl
@[simp] theorem State.takeMove_responses (s : State) (rest : List Move) :
    (s.takeMove rest).responses = s.responses := rfl
@[simp] theorem State.takeMove_delay (s : State) (rest : List Move) : (s.takeMove rest).delay = s.delay - 1 := rfl
@[simp] theorem State.takeMove_draws (s : State) (rest : List Move) : (s.takeMove rest).draws = s.draws := rfl

/-! ### access -/

@[simp] theorem State.access_params (s : State) (a : Access) : (s.access a).params = (s.afterAccess a).params := rfl
@[simp] theorem State.access_irqEn (s : State) (a : Access) : (s.access a).irqEn = (s.afterAccess a).irqEn := rfl
@[simp] theorem State.access_nb (s : State) (a : Access) : (s.access a).nb = (s.afterAccess a).nb := rfl
@[simp] theorem State.access_nk (s : State) (a : Access) : (s.access a).nk = (s.afterAccess a).nk := rfl
@[simp] theorem State.access_cmd (s : State) (a : Access) : (s.access a).cmd = (s.afterAccess a).cmd := rfl
@[simp] theorem State.access_done (s : State) (a : Access) : (s.access a).done = (s.afterAccess a).done := rfl
@[simp] theorem State.access_keyValid (s : State) (a : Access) :
    (s.access a).keyValid = (s.afterAccess a).keyValid := rfl
@[simp] theorem State.access_ovr (s : State) (a : Access) : (s.access a).ovr = (s.afterAccess a).ovr := rfl
@[simp] theorem State.access_errCode (s : State) (a : Access) : (s.access a).errCode = (s.afterAccess a).errCode := rfl
@[simp] theorem State.access_result (s : State) (a : Access) : (s.access a).result = (s.afterAccess a).result := rfl
@[simp] theorem State.access_msgLen (s : State) (a : Access) : (s.access a).msgLen = (s.afterAccess a).msgLen := rfl
@[simp] theorem State.access_adLen (s : State) (a : Access) : (s.access a).adLen = (s.afterAccess a).adLen := rfl
@[simp] theorem State.access_key (s : State) (a : Access) : (s.access a).key = (s.afterAccess a).key := rfl
@[simp] theorem State.access_blk (s : State) (a : Access) : (s.access a).blk = (s.afterAccess a).blk := rfl
@[simp] theorem State.access_iv (s : State) (a : Access) : (s.access a).iv = (s.afterAccess a).iv := rfl
@[simp] theorem State.access_tag (s : State) (a : Access) : (s.access a).tag = (s.afterAccess a).tag := rfl
@[simp] theorem State.access_mem (s : State) (a : Access) : (s.access a).mem = (s.afterAccess a).mem := rfl
@[simp] theorem State.access_w (s : State) (a : Access) : (s.access a).w = (s.afterAccess a).w := rfl
@[simp] theorem State.access_snb (s : State) (a : Access) : (s.access a).snb = (s.afterAccess a).snb := rfl
@[simp] theorem State.access_snk (s : State) (a : Access) : (s.access a).snk = (s.afterAccess a).snk := rfl
@[simp] theorem State.access_pending (s : State) (a : Access) : (s.access a).pending = (s.afterAccess a).pending := rfl
@[simp] theorem State.access_inputs (s : State) (a : Access) : (s.access a).inputs = (s.afterAccess a).inputs := rfl
@[simp] theorem State.access_responses (s : State) (a : Access) :
    (s.access a).responses = s.responses ++ [s.responseTo a] := rfl
@[simp] theorem State.access_delay (s : State) (a : Access) : (s.access a).delay = (s.afterAccess a).delay := rfl
@[simp] theorem State.access_draws (s : State) (a : Access) : (s.access a).draws = (s.afterAccess a).draws := rfl

/-! ### BUSY after an update -/

@[simp] theorem State.busy_complete (s : State) (e : ErrorCode) : (s.complete e).busy = false := rfl
@[simp] theorem State.busy_fail (s : State) (e : ErrorCode) : (s.fail e).busy = false := rfl
@[simp] theorem State.busy_latch (s : State) (v : Word) : (s.latch v).busy = true := rfl
@[simp] theorem State.busy_accept (s : State) (v : Word) : (s.accept v).busy = true := rfl
@[simp] theorem State.busy_issued (s : State) (v : Word) : (s.issued v).busy = true := rfl
@[simp] theorem State.busy_finishResetClear (s : State) : s.finishResetClear.busy = false := rfl
@[simp] theorem State.busy_applyReset (s : State) : s.applyReset.busy = true := rfl

theorem State.busy_eq_false_iff (s : State) : s.busy = false ↔ s.pending = .idle := by simp [State.busy]
theorem State.busy_eq_true_iff (s : State) : s.busy = true ↔ s.pending ≠ .idle := by simp [State.busy]

end Sys2Proof.Machine
end

