-- ==== Sys2Proof/Laws/Command.lean ====
section
/-! SUPPORT. What the completion of a command can do, once for all commands (40_control.md R65). -/

namespace Sys2Proof.Machine

@[simp] theorem firstFailing_nil : firstFailing [] = none := rfl

/-- No check fails exactly when each passes. -/
theorem firstFailing_eq_none {checks : List Check} :
    firstFailing checks = none ↔ ∀ c ∈ checks, c.fails = false := by
  induction checks with
  | nil => simp
  | cons c cs ih =>
    simp only [firstFailing]
    split <;> simp_all

/-- The first failing check is one of the list, it fails, and none before it does. -/
theorem firstFailing_eq_some {checks : List Check} {e : ErrorCode} (h : firstFailing checks = some e) :
    ∃ before c after, checks = before ++ c :: after ∧ c.fails = true ∧ c.code = e ∧
      ∀ d ∈ before, d.fails = false := by
  induction checks with
  | nil => simp at h
  | cons c cs ih =>
    simp only [firstFailing] at h
    split at h
    · exact ⟨[], c, cs, rfl, ‹_›, by simpa using h, by simp⟩
    · obtain ⟨before, d, after, rfl, hd, he, hb⟩ := ih h
      exact ⟨c :: before, d, after, rfl, hd, he, by simp_all⟩

/-- A command that fails a check ends with its code and changes nothing else. -/
theorem runCommand_of_fails {checks : List Check} {effect : State → State × ErrorCode} {s : State} {e : ErrorCode}
    (h : firstFailing checks = some e) : runCommand checks effect s = .next (s.fail e) := by simp [runCommand, h]

/-- A command that passes its checks runs its pseudocode and completes with the code it ends with. -/
theorem runCommand_of_passes {checks : List Check} {effect : State → State × ErrorCode} {s : State}
    (h : firstFailing checks = none) :
    runCommand checks effect s = .next ((effect s).1.complete (effect s).2) := by simp [runCommand, h]

/-- The same for a command whose pseudocode ends in success. -/
theorem runTotal_of_passes {checks : List Check} {effect : State → State} {s : State}
    (h : firstFailing checks = none) : runTotal checks effect s = .next ((effect s).complete .noError) :=
  runCommand_of_passes h

/-- Every way a command can end. -/
theorem runCommand_cases {checks : List Check} {effect : State → State × ErrorCode} {s t : State}
    (h : runCommand checks effect s = .next t) :
    (∃ e, firstFailing checks = some e ∧ t = s.fail e) ∨
      (firstFailing checks = none ∧ t = (effect s).1.complete (effect s).2) := by
  unfold runCommand at h
  split at h
  · exact .inl ⟨_, ‹_›, by simpa using h.symm⟩
  · exact .inr ⟨‹_›, by simpa using h.symm⟩

theorem runTotal_cases {checks : List Check} {effect : State → State} {s t : State}
    (h : runTotal checks effect s = .next t) :
    (∃ e, firstFailing checks = some e ∧ t = s.fail e) ∨
      (firstFailing checks = none ∧ t = (effect s).complete .noError) := runCommand_cases h

/-! ### When a check passes -/

theorem legalWords_iff (n : BitVec 4) : legalWords n = true ↔ n = 4 ∨ n = 6 ∨ n = 8 := by
  simp [legalWords, or_assoc]

@[simp] theorem State.keyLengthCheck_fails (s : State) : s.keyLengthCheck.fails = !legalWords s.nk := rfl
@[simp] theorem State.blockSizeCheck_fails (s : State) : s.blockSizeCheck.fails = !legalWords s.nb := rfl
@[simp] theorem State.ocbBlockCheck_fails (s : State) : s.ocbBlockCheck.fails = (s.nb != 4) := rfl
@[simp] theorem State.keyCheck_fails (s : State) : s.keyCheck.fails = !s.keyValid := rfl
@[simp] theorem State.roundCheck_fails (s : State) (r : Byte) :
    (s.roundCheck r).fails = decide (s.schedNr < r.toNat) := rfl
@[simp] theorem State.msgLengthCheck_fails (s : State) :
    s.msgLengthCheck.fails = decide (s.params.msgBytes < s.msgLen.toNat) := rfl
@[simp] theorem State.adLengthCheck_fails (s : State) :
    s.adLengthCheck.fails = decide (s.params.adBytes < s.adLen.toNat) := rfl
@[simp] theorem State.paddedLengthCheck_fails (s : State) :
    s.paddedLengthCheck.fails =
      decide (s.params.msgBytes < ceilDiv s.msgLen.toNat (4 * s.schedNb) * (4 * s.schedNb)) := rfl
@[simp] theorem State.wholeBlocksCheck_fails (s : State) :
    s.wholeBlocksCheck.fails = (s.msgLen.toNat % (4 * s.schedNb) != 0) := rfl
@[simp] theorem State.emptyAdCheck_fails (s : State) : s.emptyAdCheck.fails = (s.adLen == 0) := rfl

@[simp] theorem State.keyLengthCheck_code (s : State) : s.keyLengthCheck.code = .invalidKeyLength := rfl
@[simp] theorem State.blockSizeCheck_code (s : State) : s.blockSizeCheck.code = .invalidBlockSize := rfl
@[simp] theorem State.ocbBlockCheck_code (s : State) : s.ocbBlockCheck.code = .invalidBlockSize := rfl
@[simp] theorem State.keyCheck_code (s : State) : s.keyCheck.code = .keyNotExpanded := rfl
@[simp] theorem State.roundCheck_code (s : State) (r : Byte) : (s.roundCheck r).code = .badRound := rfl
@[simp] theorem State.msgLengthCheck_code (s : State) : s.msgLengthCheck.code = .lengthTooLarge := rfl
@[simp] theorem State.adLengthCheck_code (s : State) : s.adLengthCheck.code = .lengthTooLarge := rfl
@[simp] theorem State.paddedLengthCheck_code (s : State) : s.paddedLengthCheck.code = .lengthTooLarge := rfl
@[simp] theorem State.wholeBlocksCheck_code (s : State) : s.wholeBlocksCheck.code = .badCiphertextLength := rfl
@[simp] theorem State.emptyAdCheck_code (s : State) : s.emptyAdCheck.code = .emptyAd := rfl

end Sys2Proof.Machine
end

