-- ==== Sys2Proof/Laws/Exec.lean ====
section
/-! SUPPORT. What a decoded command can do, once for all 23: its checks, its effect, and the inversion lemma. -/

namespace Sys2Proof.Machine

/-- The checks of each command, as its meaning lists them. -/
def checksOf (s : State) : Instr → List Check
  | .nop | .zeroize => []
  | .keyexp => [s.keyLengthCheck, s.blockSizeCheck]
  | .encBlock | .decBlock => [s.blockSizeCheck, s.keyCheck]
  | .subBytes | .invSubBytes | .shiftRows | .invShiftRows | .mixColumns | .invMixColumns => [s.blockSizeCheck]
  | .addRoundKey r => [s.blockSizeCheck, s.keyCheck, s.roundCheck r]
  | .sbox _ | .invSbox _ | .gf8Mul _ _ | .gf8Inv _ | .gf128Double | .gf128Triple => []
  | .cbcEnc => [s.blockSizeCheck, s.keyCheck, s.paddedLengthCheck]
  | .cbcDec => [s.blockSizeCheck, s.keyCheck, s.msgLengthCheck, s.wholeBlocksCheck]
  | .pmac => [s.ocbBlockCheck, s.keyCheck, s.adLengthCheck, s.emptyAdCheck]
  | .ocbEnc | .ocbDec => [s.ocbBlockCheck, s.keyCheck, s.msgLengthCheck, s.adLengthCheck]

/-- The pseudocode of each command, as its meaning runs it. -/
def effectOf (s : State) : Instr → State × ErrorCode
  | .nop => (s, .noError)
  | .zeroize => (s.zeroized, .noError)
  | .keyexp => (s.loadSchedule, .noError)
  | .encBlock => (s.mapBlk s.schedNb s.encrypt, .noError)
  | .decBlock => (s.mapBlk s.schedNb s.decrypt, .noError)
  | .subBytes => (s.mapBlk s.nb.toNat subBytes, .noError)
  | .invSubBytes => (s.mapBlk s.nb.toNat invSubBytes, .noError)
  | .shiftRows => (s.mapBlk s.nb.toNat (shiftRows s.nb.toNat), .noError)
  | .invShiftRows => (s.mapBlk s.nb.toNat (invShiftRows s.nb.toNat), .noError)
  | .mixColumns => (s.mapBlk s.nb.toNat (mixColumns s.nb.toNat), .noError)
  | .invMixColumns => (s.mapBlk s.nb.toNat (invMixColumns s.nb.toNat), .noError)
  | .addRoundKey r => (s.mapBlk s.schedNb (addRoundKey s.w s.schedNb r.toNat), .noError)
  | .sbox x => (s.storeResult (sboxOf x), .noError)
  | .invSbox x => (s.storeResult (invSboxOf x), .noError)
  | .gf8Mul x y => (s.storeResult (gfMul x y), .noError)
  | .gf8Inv x => (s.storeResult (gfInv x), .noError)
  | .gf128Double => (s.mapBlk 4 gfDouble, .noError)
  | .gf128Triple => (s.mapBlk 4 gfTriple, .noError)
  | .cbcEnc => (s.cbcEncrypted, .noError)
  | .cbcDec => (s.storeMsg s.cbcPlaintext, .noError)
  | .pmac => (s.storeTag (pmacOf s.encrypt s.header), .noError)
  | .ocbEnc => ((s.storeMsg s.ocbSealed.1).storeTag s.ocbSealed.2, .noError)
  | .ocbDec =>
    if s.ocbOpened.2 = s.tag.toList then (s.storeMsg s.ocbOpened.1, .noError) else (s, .authenticationFailed)

/-- Every command is its checks and its effect. -/
theorem exec_eq (i : Instr) (s : State) : exec i s = runCommand (checksOf s i) (fun t => effectOf t i) s := by
  cases i <;> rfl

/-- A command whose checks pass completes with its effect. -/
theorem exec_of_passes {i : Instr} {s : State} (h : firstFailing (checksOf s i) = none) :
    exec i s = .next ((effectOf s i).1.complete (effectOf s i).2) := by rw [exec_eq, runCommand_of_passes h]

/-- A command that fails a check ends with its code. -/
theorem exec_of_fails {i : Instr} {s : State} {e : ErrorCode} (h : firstFailing (checksOf s i) = some e) :
    exec i s = .next (s.fail e) := by rw [exec_eq, runCommand_of_fails h]

/-- Every way a command can end. -/
theorem exec_cases {i : Instr} {s t : State} (h : exec i s = .next t) :
    (∃ e, firstFailing (checksOf s i) = some e ∧ t = s.fail e) ∨
      (firstFailing (checksOf s i) = none ∧ t = (effectOf s i).1.complete (effectOf s i).2) :=
  runCommand_cases (exec_eq i s ▸ h)

/-- A command always answers a next state. -/
theorem exec_answers (i : Instr) (s : State) : ∃ t, exec i s = .next t := by
  cases h : firstFailing (checksOf s i) with
  | none => exact ⟨_, exec_of_passes h⟩
  | some e => exact ⟨_, exec_of_fails h⟩

/-- What a check reports is an error. -/
theorem code_of_checksOf {i : Instr} {s : State} {c : Check} (h : c ∈ checksOf s i) : c.code ≠ .noError := by
  cases i <;> simp [checksOf] at h <;> (try rcases h with rfl | rfl | rfl | rfl) <;> simp

end Sys2Proof.Machine
end

