-- ==== Sys2Proof/Laws/Memory.lean ====
section
/-! SUPPORT. The laws of the buffer memory: every operation keeps the canonical form and the buffer's range, a read
after a write, and what a run of writes leaves alone. -/

namespace Sys2Proof.Machine

@[simp] theorem Memory.read_nil (a : Nat) : Memory.read [] a = 0 := rfl

theorem Memory.wf_nil : Memory.wf [] := by simp [Memory.wf]

/-- Every entry after a write is the written one or an old one. -/
theorem Memory.mem_write {m : Memory} {a : Nat} {v : Byte} {c : Host.Cell} (h : c ∈ m.write a v) :
    c = (a, v) ∨ c ∈ m := by
  induction m with
  | nil =>
    simp only [Memory.write] at h
    split at h <;> simp_all
  | cons d m ih =>
    obtain ⟨k, u⟩ := d
    simp only [Memory.write] at h
    split at h
    · split at h <;> simp_all
    · split at h
      · split at h <;> simp_all
        tauto
      · rcases List.mem_cons.mp h with h | h
        · simp [h]
        · rcases ih h with h | h <;> simp [h]

theorem Memory.wf_write {m : Memory} (h : m.wf) (a : Nat) (v : Byte) : (m.write a v).wf := by
  induction m with
  | nil =>
    simp only [Memory.write]
    split <;> simp_all [Memory.wf]
  | cons d m ih =>
    obtain ⟨k, u⟩ := d
    obtain ⟨hkp, hz⟩ := h
    obtain ⟨hk, hp⟩ := List.pairwise_cons.mp hkp
    have hm : Memory.wf m := ⟨hp, fun c hc => hz c (List.mem_cons_of_mem _ hc)⟩
    simp only [Memory.write]
    split_ifs with h1 h2 h2 h3 <;> refine ⟨?_, ?_⟩
    · exact List.pairwise_cons.mpr ⟨hk, hp⟩
    · exact hz
    · refine List.pairwise_cons.mpr ⟨fun c hc => ?_, List.pairwise_cons.mpr ⟨hk, hp⟩⟩
      rcases List.mem_cons.mp hc with rfl | hc
      · exact h1
      · exact Nat.lt_trans h1 (hk c hc)
    · intro c hc
      rcases List.mem_cons.mp hc with rfl | hc
      · exact h2
      · exact hz c hc
    · exact hp
    · exact hm.2
    · exact List.pairwise_cons.mpr ⟨fun c hc => h2 ▸ hk c hc, hp⟩
    · intro c hc
      rcases List.mem_cons.mp hc with rfl | hc
      · exact h3
      · exact hm.2 c hc
    · refine List.pairwise_cons.mpr ⟨fun c hc => ?_, (ih hm).1⟩
      rcases Memory.mem_write hc with rfl | hc
      · simp only
        omega
      · exact hk c hc
    · intro c hc
      rcases List.mem_cons.mp hc with rfl | hc
      · exact hz _ List.mem_cons_self
      · exact (ih hm).2 c hc

/-- A write leaves every other byte alone. -/
theorem Memory.read_write_ne (m : Memory) {a b : Nat} (v : Byte) (h : b ≠ a) :
    (m.write a v).read b = m.read b := by
  induction m with
  | nil =>
    simp only [Memory.write]
    split <;> simp_all [Memory.read, Memory.unlisted]
  | cons d m ih =>
    obtain ⟨k, u⟩ := d
    simp only [Memory.write]
    split_ifs <;> simp_all [Memory.read]

/-- In a canonical memory, no byte below or at the first entry's address is listed later. -/
theorem Memory.read_of_lt {m : Memory} {a : Nat} (h : ∀ c ∈ m, a < c.1) : m.read a = Memory.unlisted := by
  induction m with
  | nil => rfl
  | cons d m ih =>
    obtain ⟨k, u⟩ := d
    have := h (k, u) List.mem_cons_self
    simp only [Memory.read]
    rw [if_neg (by simp at this; omega)]
    exact ih fun c hc => h c (List.mem_cons_of_mem _ hc)

/-- A read after a write to the same byte gives the value written. -/
theorem Memory.read_write_self {m : Memory} (h : m.wf) (a : Nat) (v : Byte) : (m.write a v).read a = v := by
  induction m with
  | nil =>
    simp only [Memory.write]
    split <;> simp_all [Memory.read]
  | cons d m ih =>
    obtain ⟨k, u⟩ := d
    obtain ⟨hkp, hz⟩ := h
    obtain ⟨hk, hp⟩ := List.pairwise_cons.mp hkp
    have hm : Memory.wf m := ⟨hp, fun c hc => hz c (List.mem_cons_of_mem _ hc)⟩
    simp only [Memory.write]
    split_ifs with h1 h2 h2 h3
    · rw [h2]
      refine Memory.read_of_lt fun c hc => ?_
      rcases List.mem_cons.mp hc with rfl | hc
      · exact h1
      · exact Nat.lt_trans h1 (hk c hc)
    · simp [Memory.read]
    · rw [h3]
      exact Memory.read_of_lt fun c hc => h2 ▸ hk c hc
    · simp [Memory.read]
    · simp only [Memory.read]
      rw [if_neg h2]
      exact ih hm

@[simp] theorem Memory.writeBytes_nil (m : Memory) (a : Nat) : m.writeBytes a [] = m := rfl

theorem Memory.wf_writeBytes {m : Memory} (h : m.wf) (a : Nat) (s : Bytes) : (m.writeBytes a s).wf := by
  induction s generalizing m a with
  | nil => exact h
  | cons v s ih => exact ih (Memory.wf_write h a v) (a + 1)

/-- Every entry after a run of writes is an old one or lies in the written range. -/
theorem Memory.mem_writeBytes {m : Memory} {a : Nat} {s : Bytes} {c : Host.Cell} (h : c ∈ m.writeBytes a s) :
    c ∈ m ∨ (a ≤ c.1 ∧ c.1 < a + s.length) := by
  induction s generalizing m a with
  | nil => exact .inl h
  | cons v s ih =>
    rcases ih h with h | ⟨h1, h2⟩
    · rcases Memory.mem_write h with rfl | h
      · exact .inr ⟨Nat.le_refl _, by simp⟩
      · exact .inl h
    · exact .inr ⟨by omega, by simp only [List.length_cons]; omega⟩

/-- A run of writes leaves every byte outside its range alone. -/
theorem Memory.read_writeBytes_outside (m : Memory) {a b : Nat} (s : Bytes) (h : b < a ∨ a + s.length ≤ b) :
    (m.writeBytes a s).read b = m.read b := by
  induction s generalizing m a with
  | nil => rfl
  | cons v s ih =>
    simp only [List.length_cons] at h
    simp only [Memory.writeBytes]
    rw [ih _ (by omega), Memory.read_write_ne _ _ (by omega)]

/-- A run of writes puts byte j of the string at offset `a + j`. -/
theorem Memory.read_writeBytes_inside {m : Memory} (h : m.wf) {a j : Nat} {s : Bytes} (hj : j < s.length) :
    (m.writeBytes a s).read (a + j) = s.getD j 0 := by
  induction s generalizing m a j with
  | nil => simp at hj
  | cons v s ih =>
    simp only [Memory.writeBytes]
    cases j with
    | zero =>
      rw [Memory.read_writeBytes_outside _ _ (by omega), Nat.add_zero, Memory.read_write_self h]
      rfl
    | succ j =>
      simp only [List.length_cons] at hj
      rw [show a + (j + 1) = a + 1 + j by omega, ih (Memory.wf_write h a v) (by omega)]
      rfl

@[simp] theorem Memory.length_readBytes (m : Memory) (a n : Nat) : (m.readBytes a n).length = n := by
  simp [Memory.readBytes]

theorem Memory.getD_readBytes (m : Memory) {a n j : Nat} (h : j < n) : (m.readBytes a n).getD j 0 = m.read (a + j) := by
  simp [Memory.readBytes, List.getD, h]

/-- Two memories that agree on a range read the same string there. -/
theorem Memory.readBytes_congr {m m' : Memory} {a n : Nat} (h : ∀ j < n, m.read (a + j) = m'.read (a + j)) :
    m.readBytes a n = m'.readBytes a n := by
  simp only [Memory.readBytes]
  exact List.map_congr_left fun j hj => h j (List.mem_range.mp hj)

/-- Reading back what a run of writes put down. -/
theorem Memory.readBytes_writeBytes {m : Memory} (h : m.wf) (a : Nat) (s : Bytes) :
    (m.writeBytes a s).readBytes a s.length = s := by
  apply List.ext_getElem
  · simp
  · intro j h1 h2
    have := Memory.getD_readBytes (m.writeBytes a s) (a := a) (n := s.length) (j := j) h2
    rw [Memory.read_writeBytes_inside h h2] at this
    simpa [List.getD, h1, h2] using this

end Sys2Proof.Machine
end

