-- ==== Sys2Proof/Laws/PerInstr.lean ====
section
/-! SUPPORT. Statements made once per command, one lemma per constructor of Instr. -/

namespace Sys2Proof.Laws.EncodingIsLegal

/-- The fields of the command's word are legal by the opcode map: OP assigned, every unused field zero
(30_encoding.md R60). -/
def Statement (i : Instr) : Prop := (encodeFields i).wellFormed = true

theorem nop : Statement .nop := rfl
theorem zeroize : Statement .zeroize := rfl
theorem keyexp : Statement .keyexp := rfl
theorem encBlock : Statement .encBlock := rfl
theorem decBlock : Statement .decBlock := rfl
theorem subBytes : Statement .subBytes := rfl
theorem invSubBytes : Statement .invSubBytes := rfl
theorem shiftRows : Statement .shiftRows := rfl
theorem invShiftRows : Statement .invShiftRows := rfl
theorem mixColumns : Statement .mixColumns := rfl
theorem invMixColumns : Statement .invMixColumns := rfl
theorem addRoundKey (r : Byte) : Statement (.addRoundKey r) := rfl
theorem sbox (x : Byte) : Statement (.sbox x) := rfl
theorem invSbox (x : Byte) : Statement (.invSbox x) := rfl
theorem gf8Mul (x y : Byte) : Statement (.gf8Mul x y) := rfl
theorem gf8Inv (x : Byte) : Statement (.gf8Inv x) := rfl
theorem gf128Double : Statement .gf128Double := rfl
theorem gf128Triple : Statement .gf128Triple := rfl
theorem cbcEnc : Statement .cbcEnc := rfl
theorem cbcDec : Statement .cbcDec := rfl
theorem pmac : Statement .pmac := rfl
theorem ocbEnc : Statement .ocbEnc := rfl
theorem ocbDec : Statement .ocbDec := rfl

end Sys2Proof.Laws.EncodingIsLegal
end

