-- ==== Sys2Proof/Laws/Step.lean ====
section
/-! SUPPORT. What a step can do, once: the inversion lemmas of the bus port and of the step. -/

namespace Sys2Proof.Machine

/-! ### The bus -/

/-- Every effect an access can have: none, OVR, or the store to its target (10_state.md R42, 20_memory.md R44). -/
theorem State.afterAccess_cases (a : Access) (s : State) :
    s.afterAccess a = s ∨
      (∃ v, a.dir = .write v ∧ a.performed = true ∧ s.busy = true ∧
        (targetOf s.params a.offset.toNat).lockedWhileBusy = true ∧ s.afterAccess a = s.setOvr) ∨
      (∃ v, a.dir = .write v ∧ a.performed = true ∧
        (s.busy = true → (targetOf s.params a.offset.toNat).lockedWhileBusy = false) ∧
        s.afterAccess a = s.storeTarget v (targetOf s.params a.offset.toNat)) := by
  unfold State.afterAccess
  split
  · rename_i v hp hd
    unfold State.writeTarget
    split
    · refine .inr (.inl ⟨v, hd, hp, ?_⟩)
      simp_all
    · refine .inr (.inr ⟨v, hd, hp, ?_, rfl⟩)
      simp_all
  · exact .inl rfl
  · exact .inl rfl

/-- Where an AD target stands in the window. -/
theorem targetOf_eq_ad {p : Config.Params} {o a : Nat} (h : targetOf p o = .ad a) :
    adBase + a = o ∧ a < p.adBytes := by
  unfold targetOf controlTarget at h
  split_ifs at h <;> (try split at h) <;> (simp_all; try omega)

/-- Where a MSG target stands in the window. -/
theorem targetOf_eq_msg {p : Config.Params} {o a : Nat} (h : targetOf p o = .msg a) :
    msgBase + a = o ∧ a < p.msgBytes := by
  unfold targetOf controlTarget at h
  split_ifs at h <;> (try split at h) <;> (simp_all; try omega)

/-! ### The step -/

theorem step_of_engineTurn {s : State} (h : s.engineTurn = true) : step s = engineStep s := by
  simp [step, nextStep, h]

theorem step_of_not_engineTurn {s : State} (h : s.engineTurn = false) : step s = outsideStep s := by
  simp [step, nextStep, h]

/-- When the engine moves next. -/
theorem engineTurn_of {s : State} (hp : s.pending ≠ .idle)
    (h : s.delay = 0 ∨ s.inputs = [] ∨ s.inputs.head? = some .waitIdle) : s.engineTurn = true := by
  have hb := s.busy_eq_true_iff.2 hp
  simp only [State.engineTurn, hb, State.outsideWaits, Bool.true_and, Bool.or_eq_true, beq_iff_eq]
  rcases h with h | h | h
  · exact .inl h
  · exact .inr (by simp [h])
  · right
    cases hi : s.inputs <;> simp_all

/-- Every way a step can end: the reset-clear completes, a pending word completes, a move of the outside world is
performed, or an idle machine with no move left stays as it is. -/
theorem step_cases {s t : State} (h : step s = .next t) :
    (s.engineTurn = true ∧ s.pending = .resetClear ∧ t = s.finishResetClear) ∨
    (∃ w i, s.engineTurn = true ∧ s.pending = .command w ∧ decode w = .ok i ∧ exec i s = .next t) ∨
    (∃ w e, s.engineTurn = true ∧ s.pending = .command w ∧ decode w = .error e ∧ t = s.fail .illegalCommand) ∨
    (∃ m rest, s.engineTurn = false ∧ s.inputs = m :: rest ∧ t = (s.takeMove rest).perform m) ∨
    (s.engineTurn = false ∧ s.inputs = [] ∧ t = s) := by
  cases ht : s.engineTurn with
  | true =>
    rw [step_of_engineTurn ht] at h
    have hb : s.pending ≠ .idle := by
      rw [← State.busy_eq_true_iff]
      simp [State.engineTurn] at ht
      exact ht.1
    unfold engineStep at h
    split at h
    · contradiction
    · exact .inl ⟨rfl, ‹_›, by simpa using h.symm⟩
    · rename_i w hw
      unfold completeCommand at h
      split at h
      · exact .inr (.inl ⟨w, _, rfl, hw, ‹_›, h⟩)
      · exact .inr (.inr (.inl ⟨w, _, rfl, hw, ‹_›, by simpa using h.symm⟩))
  | false =>
    rw [step_of_not_engineTurn ht] at h
    unfold outsideStep at h
    split at h
    · exact .inr (.inr (.inr (.inr ⟨rfl, ‹_›, by simpa using h.symm⟩)))
    · exact .inr (.inr (.inr (.inl ⟨_, _, rfl, ‹_›, by simpa using h.symm⟩)))

/-- A word placed by `withFetchWord` is what the next step completes. -/
theorem step_withFetchWord (s : State) (nbits w : Nat) :
    step (s.withFetchWord nbits w) =
      completeCommand (BitVec.ofNat 32 (w % 2 ^ nbits)) (s.withFetchWord nbits w) := rfl

end Sys2Proof.Machine
end

