-- ==== Sys2Proof/Tests/Slice0.lean ====
section
/-! SUPPORT. The model's own tests: ill-formed command words refused, every command decoded from a word written out from
the spec's encoding, single completions and single accesses with the values of 95_test_vectors.md, and for every
statement with hypotheses a witness that meets them together. Expected values are the spec's (the vector is named at each
test); the states are built by the helpers below. -/

namespace Sys2Proof.Tests

-- One theorem after the other: many kernel evaluations side by side reserve more address space than the check allows.
set_option Elab.async false

open Sys2Proof Sys2Proof.Machine Sys2Proof.Claim

/-! ### Helpers -/

/-- A byte string from its hex digits. -/
def hex (n v : Nat) : Bytes := num2str v n

/-- The counting string 00 01 02 …. -/
def counting (n : Nat) : Bytes := (List.range n).map (BitVec.ofNat 8)

/-- The machine after reset and its reset-clear. -/
def idleState : State := { State.reset with pending := .idle }

/-- A machine of the smallest buffers: MSG_BYTES = 32, AD_BYTES = 16. -/
def smallState : State := { State.resetWith ⟨0, 0⟩ with pending := .idle }

/-- An idle machine whose key is expanded. -/
def keyed (key : Bytes) (nb nk : BitVec 4) : State :=
  ({ idleState with key := overwrite idleState.key key, nb := nb, nk := nk }).loadSchedule

def withBlk (s : State) (b : Bytes) : State := { s with blk := overwrite s.blk b }

def withMsg (s : State) (m : Bytes) : State :=
  { s with mem := s.mem.writeBytes 0x8000 m, msgLen := BitVec.ofNat 32 m.length }

def withAd (s : State) (h : Bytes) : State :=
  { s with mem := s.mem.writeBytes 0x2000 h, adLen := BitVec.ofNat 32 h.length }

def withIv (s : State) (b : Bytes) : State := { s with iv := overwrite s.iv b }

def withTag (s : State) (b : Bytes) : State := { s with tag := overwrite s.tag b }

/-- A machine that is busy with a command whose completion is still `d` moves away. -/
def busyState (w : Word) (d : Nat) : State := { idleState.latch w with delay := d }

/-- The state a completion or step answers, where it answers one. -/
def nextOf : Host.Outcome State Fault Refusal → Option State
  | .next t    => some t
  | .fault _   => none
  | .refused _ => none

/-- STATUS after the completion. -/
def statusOf (o : Host.Outcome State Fault Refusal) : Option Word := (nextOf o).map State.status

/-- The first n bytes of BLK after the completion. -/
def blkOf (n : Nat) (o : Host.Outcome State Fault Refusal) : Option Bytes := (nextOf o).map fun t => regBytes t.blk n

/-- RESULT and STATUS after the completion. -/
def resultOf (o : Host.Outcome State Fault Refusal) : Option (Byte × Word) :=
  (nextOf o).map fun t => (t.result, t.status)

/-! ### Well-formedness: ill-formed command words are refused (30_encoding.md R60) -/

/-- R60 (a): OP 0x05 and OP 0xFF are unassigned. -/
theorem test_wellFormed_refuses_unassigned :
    (Cmd32.mk 0x05 0 0 0).wellFormed = false ∧ (Cmd32.mk 0xFF 0 0 0).wellFormed = false := by decide

/-- R60 (b): SBOX with B = 1, ENC_BLOCK with A = 1, GF8_INV with Z = 1, GF8_MUL with Z = 1. -/
theorem test_wellFormed_refuses_nonzero_fields :
    (Cmd32.mk 0x20 0x53 1 0).wellFormed = false ∧ (Cmd32.mk 0x03 1 0 0).wellFormed = false ∧
    (Cmd32.mk 0x23 0x53 0 1).wellFormed = false ∧ (Cmd32.mk 0x22 0x57 0x83 1).wellFormed = false := by decide

/-- The legal neighbours of those words pass. -/
theorem test_wellFormed_accepts :
    (Cmd32.mk 0x04 0 0 0).wellFormed = true ∧ (Cmd32.mk 0x20 0x53 0 0).wellFormed = true ∧
    (Cmd32.mk 0x22 0x57 0x83 0).wellFormed = true := by decide

/-! ### Decoding: words written out bit by bit from 30_encoding.md R57, R59 -/

theorem test_decode_control_and_key_schedule :
    decode 0b00000000000000000000000000000000 = .ok .nop ∧
    decode 0b00000000000000000000000000000001 = .ok .zeroize ∧
    decode 0b00000000000000000000000000000010 = .ok .keyexp := by decide

theorem test_decode_block :
    decode 0b00000000000000000000000000000011 = .ok .encBlock ∧
    decode 0b00000000000000000000000000000100 = .ok .decBlock := by decide

theorem test_decode_round_transforms :
    decode 0b00000000000000000000000000010000 = .ok .subBytes ∧
    decode 0b00000000000000000000000000010001 = .ok .invSubBytes ∧
    decode 0b00000000000000000000000000010010 = .ok .shiftRows ∧
    decode 0b00000000000000000000000000010011 = .ok .invShiftRows ∧
    decode 0b00000000000000000000000000010100 = .ok .mixColumns ∧
    decode 0b00000000000000000000000000010101 = .ok .invMixColumns ∧
    decode 0b00000000000000000000101000010110 = .ok (.addRoundKey 10) := by decide

theorem test_decode_byte_commands :
    decode 0b00000000000000000101001100100000 = .ok (.sbox 0x53) ∧
    decode 0b00000000000000001110110100100001 = .ok (.invSbox 0xED) ∧
    decode 0b00000000100000110101011100100010 = .ok (.gf8Mul 0x57 0x83) ∧
    decode 0b00000000000000000101001100100011 = .ok (.gf8Inv 0x53) := by decide

theorem test_decode_field :
    decode 0b00000000000000000000000000101000 = .ok .gf128Double ∧
    decode 0b00000000000000000000000000101001 = .ok .gf128Triple := by decide

theorem test_decode_modes :
    decode 0b00000000000000000000000000110000 = .ok .cbcEnc ∧
    decode 0b00000000000000000000000000110001 = .ok .cbcDec ∧
    decode 0b00000000000000000000000000111000 = .ok .pmac ∧
    decode 0b00000000000000000000000000111001 = .ok .ocbEnc ∧
    decode 0b00000000000000000000000000111010 = .ok .ocbDec := by decide

/-- Words of V-GF8, V-RF5 and V-GF128 that are illegal, refused by name. -/
theorem test_decode_refuses :
    decode 0x00015320 = .error (.nonzeroField 0x20) ∧ decode 0x01005323 = .error (.nonzeroField 0x23) ∧
    decode 0x00000024 = .error (.unassignedOp 0x24) ∧ decode 0x00010003 = .error (.nonzeroField 0x03) ∧
    decode 0x00000128 = .error (.nonzeroField 0x28) ∧ decode 0x000000FF = .error (.unassignedOp 0xFF) := by decide

/-- The words of R59's examples. -/
theorem test_encode_examples :
    encode .keyexp = 0x00000002 ∧ encode (.gf8Mul 0x57 0x83) = 0x00835722 ∧
    encode (.addRoundKey 10) = 0x00000A16 := by decide

theorem test_decodeTableWord :
    decodeTableWord 32 0x00835722 = some (.gf8Mul 0x57 0x83) ∧ decodeTableWord 32 0x00000005 = none := by decide

/-- The word placed after reset is the very next completion (V-GF8: SBOX 0x53 gives 0xED). -/
theorem test_withFetchWord :
    resultOf (step (State.reset.withFetchWord 32 0x00005320)) = some (0xED, 0x00000002) := by decide +kernel

/-! ### Control and byte commands -/

/-- V-CTL: `run NOP` leaves STATUS 0x00000002. -/
theorem test_nop : statusOf (exec .nop idleState) = some 0x00000002 := by decide +kernel

/-- V-CTL: ZEROIZE clears KEY, BLK, MSG and KEYVALID and keeps CFG. -/
theorem test_zeroize :
    (nextOf (exec .zeroize (withMsg (withBlk (keyed (counting 16) 4 4) (counting 32)) (counting 20)))).map
      (fun t => t.key.toList ++ t.blk.toList ++ msgBytes t 20) = some (zeroBytes 84) ∧
    (nextOf (exec .zeroize (keyed (counting 16) 4 4))).map (fun t => (t.status, t.cfg)) = some (0x2, 0x44) := by
  decide +kernel

/-- V-GF8. -/
theorem test_sbox : resultOf (exec (.sbox 0x53) idleState) = some (0xED, 2) := by decide +kernel
theorem test_sbox_zero : resultOf (exec (.sbox 0x00) idleState) = some (0x63, 2) := by decide +kernel
theorem test_invSbox : resultOf (exec (.invSbox 0xED) idleState) = some (0x53, 2) := by decide +kernel
theorem test_invSbox_zero : resultOf (exec (.invSbox 0x63) idleState) = some (0x00, 2) := by decide +kernel
theorem test_gf8Mul : resultOf (exec (.gf8Mul 0x57 0x83) idleState) = some (0xC1, 2) := by decide +kernel
theorem test_gf8Mul_large : resultOf (exec (.gf8Mul 0xFF 0xFF) idleState) = some (0x13, 2) := by decide +kernel
theorem test_gf8Inv : resultOf (exec (.gf8Inv 0x53) idleState) = some (0xCA, 2) := by decide +kernel
theorem test_gf8Inv_zero : resultOf (exec (.gf8Inv 0x00) idleState) = some (0x00, 2) := by decide +kernel

/-! ### Key schedule -/

/-- V-KS1: W[4], W[43] and W[44] of the AES-128 example key. -/
theorem test_keyexp :
    (nextOf (exec .keyexp { idleState with
        key := overwrite idleState.key (hex 16 0x2b7e151628aed2a6abf7158809cf4f3c) })).map
      (fun t => (scheduleWord t.w 4, scheduleWord t.w 43, scheduleWord t.w 44, t.status)) =
    some (⟨0xa0, 0xfa, 0xfe, 0x17⟩, ⟨0xb6, 0x63, 0x0c, 0xa6⟩, ⟨0, 0, 0, 0⟩, 0x0000000A) := by decide +kernel

/-- V-KS3: CFG = 0x57 is INVALID_KEY_LENGTH, code 2 before code 3. -/
theorem test_keyexp_illegal_cfg :
    statusOf (exec .keyexp { idleState with nb := 7, nk := 5 }) = some 0x00000206 := by decide +kernel

/-- V-KS2, V-KS3: the SubWord-only step W[12] at Nk = 8, and the last word W[119] at Nb = 8, Nk = 4. -/
theorem test_schedule_words :
    scheduleWord (scheduleOf (overwrite idleState.key
      (hex 32 0x603deb1015ca71be2b73aef0857d77811f352c073b6108d72d9810a30914dff4)) 4 8) 12 = ⟨0xa8, 0xb0, 0x9c, 0x1a⟩ ∧
    scheduleWord (scheduleOf (overwrite idleState.key (counting 16)) 8 4) 119 = ⟨0x59, 0x31, 0xc2, 0xaa⟩ := by
  decide +kernel

/-! ### Round transforms -/

/-- V-RF1: BLK in and out of each transform of round 1. -/
theorem test_subBytes :
    blkOf 16 (exec .subBytes (withBlk idleState (hex 16 0x193de3bea0f4e22b9ac68d2ae9f84808))) =
      some (hex 16 0xd42711aee0bf98f1b8b45de51e415230) := by decide +kernel
theorem test_invSubBytes :
    blkOf 16 (exec .invSubBytes (withBlk idleState (hex 16 0xd42711aee0bf98f1b8b45de51e415230))) =
      some (hex 16 0x193de3bea0f4e22b9ac68d2ae9f84808) := by decide +kernel
theorem test_mixColumns :
    blkOf 16 (exec .mixColumns (withBlk idleState (hex 16 0xd4bf5d30e0b452aeb84111f11e2798e5))) =
      some (hex 16 0x046681e5e0cb199a48f8d37a2806264c) := by decide +kernel

/-- V-RF2: INV_MIX_COLUMNS of the counting block at Nb = 6; the bytes beyond the block stay. -/
theorem test_invMixColumns :
    blkOf 26 (exec .invMixColumns (withBlk { idleState with nb := 6 } (counting 26))) =
      some (hex 26 0x0a0f080d0e0b0c0902070005060304011a1f181d1e1b1c191819) := by decide +kernel

/-- V-RF3: the permutations at Nb = 8. -/
theorem test_shiftRows :
    blkOf 32 (exec .shiftRows (withBlk { idleState with nb := 8 } (counting 32))) =
      some (hex 32 0x00050e1304091217080d161b0c111a1f10151e0314190207181d060b1c010a0f) := by decide +kernel
theorem test_invShiftRows :
    blkOf 32 (exec .invShiftRows (withBlk { idleState with nb := 8 } (counting 32))) =
      some (hex 32 0x001d161304011a1708051e1b0c09021f100d060314110a0718150e0b1c19120f) := by decide +kernel

/-- V-RF5: NB = 5 is INVALID_BLOCK_SIZE. -/
theorem test_shiftRows_illegal_nb :
    statusOf (exec .shiftRows { idleState with nb := 5 }) = some 0x00000306 := by decide +kernel

/-- V-RF5: the last round key of the counting key, and round 11. -/
theorem test_addRoundKey :
    blkOf 16 (exec (.addRoundKey 10) (keyed (counting 16) 4 4)) =
      some (hex 16 0x13111d7fe3944a17f307a78b4d2b30c5) := by decide +kernel
theorem test_addRoundKey_bad_round :
    statusOf (exec (.addRoundKey 11) (keyed (counting 16) 4 4)) = some 0x0000050E := by decide +kernel

/-! ### The block cipher -/

/-- V-S1. -/
theorem test_encBlock :
    blkOf 16 (exec .encBlock (withBlk (keyed (counting 16) 4 4) (hex 16 0x00112233445566778899aabbccddeeff))) =
      some (hex 16 0x69c4e0d86a7b0430d8cdb78070b4c55a) := by decide +kernel

/-- V-RF4, Nb = 6 and Nk = 4. -/
theorem test_encBlock_wide :
    blkOf 24 (exec .encBlock (withBlk (keyed (counting 16) 6 4) (counting 24))) =
      some (hex 24 0x54030626e366bba5827f46be060b53c75668fc25fb1a6074) := by decide +kernel

/-- V-S1, backwards. -/
theorem test_decBlock :
    blkOf 16 (exec .decBlock (withBlk (keyed (counting 16) 4 4) (hex 16 0x69c4e0d86a7b0430d8cdb78070b4c55a))) =
      some (hex 16 0x00112233445566778899aabbccddeeff) := by decide +kernel

/-- V-RF5: no schedule. -/
theorem test_decBlock_no_key : statusOf (exec .decBlock idleState) = some 0x00000406 := by decide +kernel

/-! ### GF(2^128) -/

/-- V-GF128, with CFG illegal. -/
theorem test_gf128Double :
    blkOf 16 (exec .gf128Double (withBlk { idleState with nb := 15 } (hex 16 0xffffffffffffffffffffffffffffffff))) =
      some (hex 16 0xffffffffffffffffffffffffffffff79) := by decide +kernel
theorem test_gf128Triple :
    blkOf 16 (exec .gf128Triple (withBlk idleState (hex 16 0x0123456789abcdeffedcba9876543210))) =
      some (hex 16 0x0365cfa89afc56300365cfa89afc5630) := by decide +kernel

/-! ### CBC -/

/-- V-CBC2: 17 zero bytes; MSG_LEN becomes 32. -/
theorem test_cbcEnc :
    (nextOf (exec .cbcEnc (withMsg (keyed [] 4 4) (zeroBytes 17)))).map (fun t => (t.msgLen, msgBytes t 32)) =
      some (32, hex 32 0x66e94bd4ef8a2c3b884cfa59ca342b2ef795bd4a52e29ed713d313fa20e98dbc) := by decide +kernel

/-- V-CBC6: with Nb = 6 and MSG_BYTES = 32, MSG_LEN = 25 pads to 48. -/
theorem test_cbcEnc_padded_length :
    statusOf (exec .cbcEnc ({ smallState with nb := 6, msgLen := 25 }).loadSchedule) = some 0x0000060E := by
  decide +kernel

/-- V-CBC3, decrypted. -/
theorem test_cbcDec :
    (nextOf (exec .cbcDec (withMsg (withIv (keyed (hex 16 0x2b7e151628aed2a6abf7158809cf4f3c) 4 4) (counting 16))
        (hex 32 0x7649abac8119b246cee98e9b12e9197d5086cb9b507219ee95db113a917678b2)))).map (fun t => msgBytes t 32) =
      some (hex 32 0x6bc1bee22e409f96e93d7e117393172aae2d8a571e03ac9c9eb76fac45af8e51) := by decide +kernel

/-- V-CBC6: MSG_LEN = 17. -/
theorem test_cbcDec_bad_length :
    statusOf (exec .cbcDec { keyed [] 4 4 with msgLen := 17 }) = some 0x0000070E := by decide +kernel

/-! ### PMAC and OCB2 -/

/-- V-PMAC: AD_LEN = 17, one encrypted block and a padded last block. -/
theorem test_pmac :
    (nextOf (exec .pmac (withAd (keyed [] 4 4) (counting 17)))).map (fun t => t.tag.toList) =
      some (hex 16 0x9f1b86f3f3afc62a932b6dfbcf434408) := by decide +kernel

/-- V-PMAC: AD_LEN = 0 is EMPTY_AD. -/
theorem test_pmac_empty : statusOf (exec .pmac (keyed [] 4 4)) = some 0x0000080E := by decide +kernel

/-- V-OCB2: AD_LEN = MSG_LEN = 8. -/
theorem test_ocbEnc :
    (nextOf (exec .ocbEnc (withAd (withMsg (withIv (keyed (counting 16) 4 4) (counting 16)) (counting 8))
        (counting 8)))).map (fun t => (msgBytes t 8, t.tag.toList)) =
      some (hex 8 0xc636b3a868f429bb, hex 16 0x8d059589ec3b6ac00ca31624bc3af2c6) := by decide +kernel

/-- The V-OCB2 row with MSG_LEN = 24 and no header, as a machine that is to verify the tag. -/
def sealedState (tag : Bytes) : State :=
  withTag (withMsg (withIv (keyed (counting 16) 4 4) (counting 16))
    (hex 24 0xf75d6bc8b4dc8d66b836a2b08b32a636cc579e145d323beb)) tag

/-- V-OCB2: the right tag gives the plaintext back. -/
theorem test_ocbDec :
    (nextOf (exec .ocbDec (sealedState (hex 16 0xa1a50f822819d6e0a216784ac24ac84c)))).map
      (fun t => (msgBytes t 24, t.status)) = some (counting 24, 0x0000000A) := by decide +kernel

/-- V-OCB1, V-OCB4: the S4 tag with bit 0 of TAG0 flipped is AUTHENTICATION_FAILED, and TAG keeps the flipped value. -/
theorem test_ocbDec_forged :
    (nextOf (exec .ocbDec (withTag (keyed [] 4 4) (hex 16 0x030ab45988007fc205b910a3bd52f096)))).map
      (fun t => (t.tag.toList, t.status)) = some (hex 16 0x030ab45988007fc205b910a3bd52f096, 0x0000090E) := by
  decide +kernel

/-! ### The bus port and reset -/

/-- V-CTL: before the reset-clear ends BLK0 reads 0, STATUS reads 1, and a CMD write is ignored and sets OVR. -/
theorem test_busy_after_reset :
    (withBlk State.reset (counting 32)).responseTo (readAt 0x060) = ⟨.okay, some 0⟩ ∧
    State.reset.responseTo (readAt 0x010) = ⟨.okay, some 0x00000001⟩ ∧
    State.reset.afterAccess (writeAt 0x00C 0) = { State.reset with ovr := true } := by decide +kernel

/-- 70_reset_and_hazards.md R145: the first step after reset is the reset-clear. -/
theorem test_reset_clear : statusOf (step State.reset) = some 0x00000000 := by decide +kernel

/-- V-CTL: `clrdone` with ERRCODE = 3 and KEYVALID = 1 leaves STATUS 0x0000030C. -/
theorem test_clrdone :
    ({ idleState with errCode := .invalidBlockSize, done := true, keyValid := true, ovr := true }.afterAccess
      (writeAt 0x010 0x00000012)).status = 0x0000030C := by decide +kernel

/-- 10_state.md R16: KEY0 = 0x03020100 holds the bytes 00 01 02 03, and KEY reads back 0 (R28). -/
theorem test_key_lanes :
    regBytes (idleState.afterAccess (writeAt 0x040 0x03020100)).key 4 = [0x00, 0x01, 0x02, 0x03] ∧
    (idleState.afterAccess (writeAt 0x040 0x03020100)).responseTo (readAt 0x040) = ⟨.okay, some 0⟩ := by
  decide +kernel

/-- 20_memory.md R44, R48: a refused access; the last AD word of the smallest buffer, and the first offset beyond it. -/
theorem test_window_edges :
    smallState.responseTo ⟨0x062, 4, true, .read⟩ = ⟨.error, some 0⟩ ∧
    (smallState.afterAccess (writeAt 0x200C 0xAABBCCDD)).responseTo (readAt 0x200C) = ⟨.okay, some 0xAABBCCDD⟩ ∧
    (smallState.afterAccess (writeAt 0x2010 0xAABBCCDD)) = smallState := by decide +kernel

/-- 40_control.md R64: acceptance; the completion that follows is SBOX (V-GF8). -/
theorem test_accept :
    ((idleState.afterAccess (writeAt 0x00C 0x00005320)).cmd, (idleState.afterAccess (writeAt 0x00C 0x00005320)).status) =
      (0x00005320, 0x00000001) := by decide +kernel

/-- V-CTL: word 0x000000FF is ILLEGAL_COMMAND. -/
theorem test_illegal_command : statusOf (step (busyState 0x000000FF 0)) = some 0x00000106 := by decide +kernel

/-! ### Witnesses: for every statement with hypotheses, concrete values that meet them together

Each theorem is named after its statement; a statement with several clauses has a witness for each, at boundary values.
-/

/-- A machine that is idle, keyed for Nb = Nk = 4. -/
def keyedState : State := keyed [] 4 4

/-- What KEYEXP leaves meets the schedule invariant, here for the states of the witnesses. -/
theorem keyed_scheduleOk (key : Bytes) {nb nk : BitVec 4} (hb : legalWords nb = true) (hk : legalWords nk = true) :
    (keyed key nb nk).ScheduleOk := fun _ => ⟨hb, hk, rfl, rfl, rfl⟩

theorem withMsg_scheduleOk {s : State} (h : s.ScheduleOk) (m : Bytes) : (withMsg s m).ScheduleOk := h

theorem withAd_scheduleOk {s : State} (h : s.ScheduleOk) (m : Bytes) : (withAd s m).ScheduleOk := h

theorem keyedState_scheduleOk : keyedState.ScheduleOk := keyed_scheduleOk [] rfl rfl

theorem witness_DecodeOfEncode : (Instr.addRoundKey 255).wellFormed = true := rfl

theorem witness_EncodeOfDecode : decode 0x00FFFF22 = .ok (.gf8Mul 0xFF 0xFF) := by decide

/-- Row 11 (ADD_ROUND_KEY) matches; no row matches 0x00000005. -/
theorem witness_DecodeFollowsOpcodeTable :
    (tableRows[11]?.map fun row => row.matches 0x00000A16) = some true ∧ (tableCommands[11]?).isSome = true ∧
    (∀ row ∈ tableRows, row.matches 0x00000005 = false) := by decide

theorem witness_IllegalWordsEndIllegal :
    ((busyState 0x000000FF 0).pending = .command 0x000000FF ∧ (fieldsOf 0x000000FF).wellFormed = false) ∧
    ((busyState 0x01000000 0).pending = .command 0x01000000 ∧ (fieldsOf 0x01000000).wellFormed = false) ∧
    ((busyState 0x0000FF16 0).pending = .command 0x0000FF16 ∧ (fieldsOf 0x0000FF16).wellFormed = true) := by
  decide +kernel

/-- The engine is next because the delay has run out, because no move is left, and because the host waits. -/
theorem witness_PendingCommandIsCompleted :
    (busyState 0x00005320 0).pending = .command 0x00005320 ∧ engineNext (busyState 0x00005320 0) ∧
    engineNext (busyState 0x00005320 3) ∧ engineNext { busyState 0x00005320 3 with inputs := [.waitIdle] } ∧
    decode 0x00005320 = .ok (.sbox 0x53) ∧
    ((busyState 0x000000FF 0).pending = .command 0x000000FF ∧ engineNext (busyState 0x000000FF 0) ∧
      decode 0x000000FF = .error (.unassignedOp 0xFF)) := by decide +kernel

theorem witness_OutsideMoveIsPerformed :
    ({ idleState with inputs := [.waitIdle] }.inputs = .waitIdle :: [] ∧ idleState.pending = .idle) ∧
    ({ busyState 0 1 with inputs := [.access (readAt 0x010)] }.inputs = .access (readAt 0x010) :: [] ∧
      (busyState 0 1).delay ≠ 0 ∧ Move.access (readAt 0x010) ≠ .waitIdle) ∧
    (idleState.pending = .idle ∧ idleState.inputs = []) := by decide +kernel

theorem witness_PendingCompletionComes :
    { busyState 0 1 with inputs := [.access (readAt 0x010), .reset] }.busy = true ∧
    Move.reset ∉ { busyState 0 1 with inputs := [.access (readAt 0x010), .reset] }.inputs.take
      { busyState 0 1 with inputs := [.access (readAt 0x010), .reset] }.delay := by decide +kernel

theorem witness_CmdWriteIsAccepted :
    idleState.pending = .idle ∧ (busyState 0 1).pending ≠ .idle ∧ State.reset.pending ≠ .idle ∧
    Move.access (writeAt 0x00C 0) ≠ .reset ∧ Move.waitIdle ≠ .reset := by decide +kernel

theorem witness_CommandInputsAreFrozen :
    (busyState 3 1).busy = true ∧ Move.access (writeAt 0x060 0xFFFFFFFF) ≠ .reset ∧ Move.waitIdle ≠ .reset := by
  decide +kernel

/-- The first and last offsets of the ranges that read 0 and are locked, with the smallest buffers, and offsets of
neither kind. -/
theorem witness_AccessesWhileBusy :
    (busyState 3 1).busy = true ∧
    (∀ o ∈ [0x000, 0x004, 0x008, 0x00C, 0x010, 0x020, 0x024], o % 4 = 0 ∧ ¬ dataOffset smallState.params o) ∧
    (∀ o ∈ [0x014, 0x018, 0x01C, 0x040, 0x0AC, 0x2000, 0x200C, 0x8000, 0x801C],
      o % 4 = 0 ∧ dataOffset smallState.params o) ∧
    (∀ o ∈ [0x008, 0x00C, 0x018, 0x01C, 0x040, 0x0AC, 0x2000, 0x200C, 0x8000, 0x801C],
      o % 4 = 0 ∧ lockedOffset smallState.params o) ∧
    (∀ o ∈ [0x000, 0x014, 0x020, 0x024, 0x028, 0x0B0, 0x2010, 0x8020, 0xFFFC],
      o % 4 = 0 ∧ ¬ lockedOffset smallState.params o) := by decide +kernel

theorem witness_OnlyAlignedWordsArePerformed :
    (Access.mk 0x060 8 true .read).width ≠ 4 ∧ (Access.mk 0x060 4 false (.write 1)).allLanes = false ∧
    (Access.mk 0x062 4 true .read).offset.toNat % 4 ≠ 0 ∧
    ((readAt 0xFFFC).width = 4 ∧ (readAt 0xFFFC).allLanes = true ∧ (readAt 0xFFFC).offset.toNat % 4 = 0) := by decide

theorem witness_ReservedReadsZeroIgnoresWrites :
    (∀ o ∈ [0x028, 0x03C, 0x0B0, 0x1FFC, 0x2010, 0x7FFC, 0x8020, 0xFFFC],
      (BitVec.ofNat 16 o).toNat % 4 = 0 ∧ reservedOffset smallState.params (BitVec.ofNat 16 o).toNat) ∧
    (∀ o ∈ [0x040, 0x05C], (BitVec.ofNat 16 o).toNat % 4 = 0 ∧ 0x040 ≤ (BitVec.ofNat 16 o).toNat ∧
      (BitVec.ofNat 16 o).toNat < 0x060) ∧
    ((5 ≤ 5 ∧ 5 ≤ 7) ∨ 12 ≤ 5) ∧ ((0x2 : Word).getLsbD 0 = (0xE : Word).getLsbD 0) ∧
    ((0x144 : Word).extractLsb' 0 8 = (0xF44 : Word).extractLsb' 0 8) ∧
    ((0x12 : Word).getLsbD 1 = (0xFF : Word).getLsbD 1 ∧ (0x12 : Word).getLsbD 4 = (0xFF : Word).getLsbD 4) := by
  decide +kernel

theorem witness_WrittenWordReadsBack :
    smallState.pending = .idle ∧ smallState.MemoryOk ∧ (0x060 : BitVec 16).toNat % 4 = 0 ∧
    (0x801C : BitVec 16).toNat % 4 = 0 ∧ storageOffset smallState.params (0x060 : BitVec 16).toNat ∧
    storageOffset smallState.params (0x801C : BitVec 16).toNat ∧ (0x801C : BitVec 16) ≠ 0x060 := by decide +kernel

theorem witness_BytesLieLittleEndianInWords :
    smallState.pending = .idle ∧ (3 < 4) ∧ (7 < 8) ∧ (0x200C : BitVec 16).toNat % 4 = 0 ∧
    inAd smallState.params (0x200C : BitVec 16).toNat ∧ inMsg smallState.params (0x801C : BitVec 16).toNat := by
  decide +kernel

theorem witness_CfgAndKeyWritesClearKeyvalid : keyedState.pending = .idle ∧ (7 < 8) ∧ (31 < 32) := by decide +kernel

/-- Two machines that differ in KEY and W. -/
theorem witness_KeyAndScheduleAreNeverShown :
    ∃ s s' : State, s' = { s with key := s'.key, w := s'.w } ∧ s ≠ s' :=
  ⟨{ keyedState with key := Vector.replicate 32 1 }, keyedState, by decide +kernel⟩

/-- KEYEXP raises KEYVALID; reset, ZEROIZE, a CFG write and a KEY write clear it. -/
theorem witness_KeyvalidChangesOnlyAsSaid :
    ((busyState 2 0).keyValid = false ∧ (nextOf (step (busyState 2 0))).map State.keyValid = some true) ∧
    (keyedState.keyValid = true ∧
      (nextOf (step { keyedState with inputs := [.reset] })).map State.keyValid = some false ∧
      (nextOf (step { keyedState with pending := .command 1 })).map State.keyValid = some false ∧
      (nextOf (step { keyedState with inputs := [.access (writeAt 0x008 0x44)] })).map State.keyValid = some false ∧
      (nextOf (step { keyedState with inputs := [.access (writeAt 0x05C 0)] })).map State.keyValid = some false) ∧
    ((0x008 : BitVec 16).toNat % 4 = 0 ∧ (0x05C : BitVec 16).toNat % 4 = 0 ∧ (0x05C : BitVec 16).toNat < 0x060) ∧
    (nextOf (exec .keyexp { idleState with nb := 7 })).map State.errCode = some .invalidBlockSize := by
  decide +kernel

theorem witness_InterruptFollowsDone :
    (busyState 0 0).pending = .command 0 ∧ idleState.pending = .idle ∧ (0x2 : Word).getLsbD 1 = true ∧
    State.reset.pending = .resetClear := by decide +kernel

theorem witness_ResetAndResetClear :
    State.reset.pending = .resetClear ∧ engineNext State.reset := by decide +kernel

/-- An idle machine whose CFG, CMD and RESULT are not 0 (the first clause has no hypothesis). -/
theorem witness_CtrlAndReadOnlyRegisters :
    { idleState with cmd := 0x5320, result := 0xED }.pending = .idle := by decide +kernel

theorem witness_TableLaws : (0x01 : Byte) ≠ 0 ∧ (0xFF : Byte) ≠ 0 := by decide

/-- The largest schedule: n = 120, so the second range is 120 ≤ i; the smallest: 44 ≤ i. -/
theorem witness_KeyexpLoadsSchedule :
    legalSize { idleState with nb := 8, nk := 4 }.nk ∧ legalSize { idleState with nb := 8, nk := 4 }.nb ∧
    119 < 8 * (rounds 8 4 + 1) ∧ 4 * (rounds 4 4 + 1) ≤ 44 := by decide +kernel

theorem witness_ExpandKeyRecurrence :
    8 ∈ [4, 6, 8] ∧ 6 ∈ [4, 6, 8] ∧ (counting 32).length = 4 * 8 ∧ 7 < 8 ∧ 8 ≤ 12 ∧ 12 < 6 * (rounds 6 8 + 1) ∧
    12 % 8 = 4 ∧ 16 % 8 = 0 := by decide

/-- Every legal NB (statements SubBytesCommands, ShiftRowsCommands, MixColumnsCommands). -/
theorem witness_SubBytesCommands : legalSize idleState.nb ∧ (31 < 32) := by decide +kernel
theorem witness_ShiftRowsCommands :
    legalSize { idleState with nb := 8 }.nb ∧ (3 < 4) ∧ (7 < 8) ∧ 4 * { idleState with nb := 6 }.nb.toNat ≤ 24 := by
  decide +kernel
theorem witness_MixColumnsCommands :
    legalSize { idleState with nb := 6 }.nb ∧ (5 < { idleState with nb := 6 }.nb.toNat) ∧
    4 * { idleState with nb := 6 }.nb.toNat ≤ 24 := by decide +kernel

/-- The last round index, 10. -/
theorem witness_AddRoundKeyCommand :
    legalSize keyedState.nb ∧ keyedState.keyValid = true ∧
    (10 : Byte).toNat ≤ rounds keyedState.snb.toNat keyedState.snk.toNat ∧ (31 < 32) := by decide +kernel

theorem witness_BlockCommands :
    keyedState.ScheduleOk ∧
    (legalSize keyedState.nb ∧ keyedState.keyValid = true ∧ 4 * keyedState.snb.toNat ≤ 16) :=
  ⟨keyedState_scheduleOk, by decide +kernel⟩

/-- Also for Nb = 8, Nk = 6. -/
theorem witness_EncBlockIsItsRoundCommands :
    (keyed (counting 24) 8 6).keyValid = true ∧ (keyed (counting 24) 8 6).ScheduleOk :=
  ⟨rfl, keyed_scheduleOk _ rfl rfl⟩
theorem witness_DecBlockIsItsRoundCommands :
    (keyed (counting 24) 8 6).keyValid = true ∧ (keyed (counting 24) 8 6).ScheduleOk :=
  ⟨rfl, keyed_scheduleOk _ rfl rfl⟩
theorem witness_BlockCommandsInvert :
    (keyed (counting 24) 8 6).keyValid = true ∧ (keyed (counting 24) 8 6).ScheduleOk :=
  ⟨rfl, keyed_scheduleOk _ rfl rfl⟩

theorem witness_DoubleIsBigEndianShift : (hex 16 0x80000000000000000000000000000000).length = 16 := by decide

theorem witness_DoubleAndTripleLaws :
    (hex 16 1).length = 16 ∧ (counting 16).length = 16 ∧ hex 16 1 ≠ zeroBytes 16 ∧
    gfDouble (hex 16 1) = gfDouble (hex 16 1) := by decide +kernel

/-- A block function of the block's length; a plaintext of one block and one byte; a ciphertext of two blocks. -/
theorem witness_CbcBlocks :
    (0 < 16 ∧ (zeroBytes 16).length = 16 ∧ (∀ b, ((fun _ => zeroBytes 16 : Bytes → Bytes) b).length = 16) ∧
      0 * 16 < (counting 17).length ∧ 1 * 16 < (counting 17).length) ∧
    ((counting 32).length = 2 * 16 ∧ 1 < 2) := by simp [counting, zeroBytes]

/-- MSG_LEN = 17 pads to two blocks: an address below MSG and the first beyond the output. -/
theorem witness_CbcEncCommand :
    (withMsg keyedState (counting 17)).ScheduleOk ∧
    (legalSize (withMsg keyedState (counting 17)).nb ∧ (withMsg keyedState (counting 17)).keyValid = true ∧
    (withMsg keyedState (counting 17)).MemoryOk ∧
    17 = (withMsg keyedState (counting 17)).msgLen.toNat ∧ 16 = 4 * keyedState.snb.toNat ∧
    2 = (17 / 16 + if 17 % 16 = 0 then 0 else 1) ∧ 2 * 16 ≤ keyedState.params.msgBytes ∧
    (0x7FFF < 0x8000 ∨ 0x8000 + 2 * 16 ≤ 0x7FFF) ∧ (0x8020 < 0x8000 ∨ 0x8000 + 2 * 16 ≤ 0x8020)) :=
  ⟨withMsg_scheduleOk keyedState_scheduleOk _, by decide +kernel⟩

/-- Both a whole number of blocks and MSG_LEN = 0. -/
theorem witness_CbcDecCommand :
    (withMsg keyedState (counting 32)).ScheduleOk ∧
    (legalSize (withMsg keyedState (counting 32)).nb ∧ (withMsg keyedState (counting 32)).keyValid = true ∧
    (withMsg keyedState (counting 32)).MemoryOk ∧
    32 = (withMsg keyedState (counting 32)).msgLen.toNat ∧ 16 = 4 * keyedState.snb.toNat ∧
    32 ≤ keyedState.params.msgBytes ∧ 32 % 16 = 0 ∧ 0 % 16 = 0 ∧ 0 = keyedState.msgLen.toNat ∧
    (0x8020 < 0x8000 ∨ 0x8000 + 32 ≤ 0x8020)) :=
  ⟨withMsg_scheduleOk keyedState_scheduleOk _, by decide +kernel⟩

theorem witness_CbcRoundTrip :
    (withMsg keyedState (counting 17)).ScheduleOk ∧
    ((withMsg keyedState (counting 17)).keyValid = true ∧ (withMsg keyedState (counting 17)).MemoryOk ∧
    17 = (withMsg keyedState (counting 17)).msgLen.toNat ∧
    16 = 4 * keyedState.snb.toNat ∧ 2 = (17 / 16 + if 17 % 16 = 0 then 0 else 1) ∧
    2 * 16 ≤ keyedState.params.msgBytes ∧ (0x8000 + 17 ≤ 0x8011 ∧ 0x8011 < 0x8000 + 2 * 16)) :=
  ⟨withMsg_scheduleOk keyedState_scheduleOk _, by decide +kernel⟩

/-- A full last block (b = 16) and a last block of one byte. -/
theorem witness_PmacIsItsSum :
    (∀ x, ((fun _ => zeroBytes 16 : Bytes → Bytes) x).length = 16) ∧
    (0 < 2 ∧ 1 ≤ 16 ∧ 16 ≤ 16 ∧ (counting 32).length = 16 * (2 - 1) + 16) ∧
    (0 < 1 ∧ 1 ≤ 1 ∧ (counting 1).length = 16 * (1 - 1) + 1) := by simp [counting, zeroBytes]

/-- The empty message (m = 1, b = 0) and a message of one block and one byte (m = 2, b = 1). -/
theorem witness_OcbEncryptBlocks :
    (∀ x, ((fun _ => zeroBytes 16 : Bytes → Bytes) x).length = 16) ∧
    (0 < 1 ∧ 0 ≤ 16 ∧ (0 = 0 → 1 = 1) ∧ (counting 0).length = 16 * (1 - 1) + 0) ∧
    (0 < 2 ∧ 1 ≤ 16 ∧ (1 = 0 → 2 = 1) ∧ (counting 17).length = 16 * (2 - 1) + 1 ∧ 0 < 2 - 1) := by
  simp [counting, zeroBytes]

theorem witness_PmacCommand :
    (withAd keyedState (counting 17)).ScheduleOk ∧
    ((withAd keyedState (counting 17)).nb = 4 ∧ (withAd keyedState (counting 17)).keyValid = true ∧
    (withAd keyedState (counting 17)).adLen.toNat ≤ keyedState.params.adBytes ∧
    (withAd keyedState (counting 17)).adLen ≠ 0) :=
  ⟨withAd_scheduleOk keyedState_scheduleOk _, by decide +kernel⟩

theorem witness_OcbEncCommand :
    (withMsg keyedState (counting 17)).ScheduleOk ∧
    ((withMsg keyedState (counting 17)).nb = 4 ∧ (withMsg keyedState (counting 17)).keyValid = true ∧
    (withMsg keyedState (counting 17)).MemoryOk ∧
    (withMsg keyedState (counting 17)).msgLen.toNat ≤ keyedState.params.msgBytes ∧
    (withMsg keyedState (counting 17)).adLen.toNat ≤ keyedState.params.adBytes ∧
    (0x8011 < 0x8000 ∨ 0x8000 + 17 ≤ 0x8011)) :=
  ⟨withMsg_scheduleOk keyedState_scheduleOk _, by decide +kernel⟩

/-- The S4 tag (V-OCB1) verifies, the same tag with a bit flipped does not. -/
theorem witness_OcbDecCommand :
    keyedState.ScheduleOk ∧
    (keyedState.nb = 4 ∧ keyedState.keyValid = true ∧ keyedState.MemoryOk ∧
    keyedState.msgLen.toNat ≤ keyedState.params.msgBytes ∧ keyedState.adLen.toNat ≤ keyedState.params.adBytes ∧
    (([] : Bytes), hex 16 0x020ab45988007fc205b910a3bd52f096) =
      ocbDecrypt keyedState.encrypt keyedState.decrypt (adBytes keyedState keyedState.adLen.toNat)
        (msgBytes keyedState keyedState.msgLen.toNat) (regBytes keyedState.iv 16) ∧
    hex 16 0x020ab45988007fc205b910a3bd52f096 =
      regBytes (withTag keyedState (hex 16 0x020ab45988007fc205b910a3bd52f096)).tag 16 ∧
    hex 16 0x020ab45988007fc205b910a3bd52f096 ≠
      regBytes (withTag keyedState (hex 16 0x030ab45988007fc205b910a3bd52f096)).tag 16) :=
  ⟨keyedState_scheduleOk, by decide +kernel⟩

theorem witness_OcbRoundTrip :
    (withMsg keyedState (counting 17)).ScheduleOk ∧
    ((withMsg keyedState (counting 17)).nb = 4 ∧ (withMsg keyedState (counting 17)).keyValid = true ∧
    (withMsg keyedState (counting 17)).MemoryOk ∧
    (withMsg keyedState (counting 17)).msgLen.toNat ≤ keyedState.params.msgBytes ∧
    (withMsg keyedState (counting 17)).adLen.toNat ≤ keyedState.params.adBytes) :=
  ⟨withMsg_scheduleOk keyedState_scheduleOk _, by decide +kernel⟩

/-- CFG = 0x57 meets two conditions of KEYEXP, the lower being INVALID_KEY_LENGTH; a legal CFG meets none. -/
theorem witness_LowestFailingCodeIsReported :
    (.invalidKeyLength ∈ marked .keyexp ∧ condition { idleState with nb := 7, nk := 5 } .keyexp .invalidKeyLength ∧
      ∀ e' ∈ marked .keyexp, e'.code.toNat < ErrorCode.invalidKeyLength.code.toNat →
        ¬ condition { idleState with nb := 7, nk := 5 } .keyexp e') ∧
    (∀ e ∈ marked .keyexp, ¬ condition idleState .keyexp e) := by
  refine ⟨⟨by simp [marked], ?_, ?_⟩, ?_⟩
  · simp only [condition]; decide +kernel
  · intro e' he h
    simp only [marked, List.mem_cons, List.not_mem_nil, or_false] at he
    rcases he with rfl | rfl <;> simp [ErrorCode.code] at h
  · intro e he
    simp only [marked, List.mem_cons, List.not_mem_nil, or_false] at he
    rcases he with rfl | rfl
    · simp only [condition]; decide +kernel
    · simp only [condition, badBlockSize]; decide +kernel

theorem witness_FailedCommandChangesOnlyStatus :
    ((busyState 0x000000FF 0).pending = .command 0x000000FF ∧
      (nextOf (engineStep (busyState 0x000000FF 0))).map State.errCode = some .illegalCommand) ∧
    (nextOf (exec .keyexp { idleState with nb := 7, nk := 5 })).map State.errCode = some .invalidKeyLength ∧
    idleState.pending = .idle := by decide +kernel

theorem witness_CommandsWriteOnlyTheirTargets :
    (nextOf (exec (.sbox 0) idleState)).isSome = true ∧ writesBlk (.sbox 0) = false ∧ writesTag (.sbox 0) = false ∧
    writesMsg (.sbox 0) = false ∧ writesSchedule (.sbox 0) = false ∧ writesMsgLen (.sbox 0) = false ∧
    Instr.sbox 0 ≠ .zeroize ∧ writesResult .nop = false ∧ (nextOf (exec .nop idleState)).isSome = true := by
  decide +kernel

theorem witness_MemoryStaysCanonical :
    (withMsg keyedState (counting 17)).MemoryOk ∧ (nextOf (step (withMsg keyedState (counting 17)))).isSome = true := by
  decide +kernel

theorem witness_ScheduleStaysKeysOwn :
    keyedState.ScheduleOk ∧ (nextOf (step keyedState)).isSome = true := ⟨keyedState_scheduleOk, by decide +kernel⟩

theorem witness_GeometryStaysLegal :
    keyedState.GeometryOk ∧ (nextOf (step keyedState)).isSome = true := by decide +kernel

/-- A pending command and the pending reset-clear. -/
theorem witness_EngineStaysConsistent :
    ((∀ v, (busyState 0 0).pending = .command v →
        (busyState 0 0).cmd = v ∧ (busyState 0 0).done = false ∧ (busyState 0 0).errCode = .noError) ∧
      (busyState 0 0).pending ≠ .resetClear) ∧
    (nextOf (step (busyState 0 0))).isSome = true ∧
    (State.reset.pending = .resetClear ∧ State.reset.zeroized = State.reset) := by
  refine ⟨⟨fun v h => ?_, by decide +kernel⟩, by decide +kernel, by decide +kernel⟩
  have hv : (0 : Word) = v := by simpa [busyState, State.latch] using h
  subst hv
  decide +kernel

end Sys2Proof.Tests
end

/-! ## What the effect of a command writes, and what it leaves -/

namespace Sys2Proof.Machine

open Sys2Proof.Claim

/-- Whether or not the tags agree, OCB_DEC touches MSG alone (46_ocb2_pmac.md R127). -/
theorem effectOf_ocbDec_frame (s : State) :
    (effectOf s .ocbDec).1 = { s with mem := (effectOf s .ocbDec).1.mem } := by
  simp only [effectOf]
  split <;> rfl

/-- A command's pseudocode writes KEYVALID, the data registers, the lengths, the buffers and the schedule alone. -/
theorem effectOf_frame (s : State) (i : Instr) {t : State} (h : t = (effectOf s i).1) :
    t = { s with
      keyValid := t.keyValid, result := t.result, msgLen := t.msgLen, adLen := t.adLen, key := t.key, blk := t.blk,
      iv := t.iv, tag := t.tag, mem := t.mem, w := t.w, snb := t.snb, snk := t.snk } := by
  subst h
  cases i with
  | ocbDec => rw [effectOf_ocbDec_frame]
  | _ => rfl

/-- The frame of a completion: besides what the pseudocode writes, only ERRCODE, BUSY and DONE (40_control.md R65). -/
theorem exec_frame {i : Instr} {s t : State} (h : exec i s = .next t) :
    t = { s with
      done := true, errCode := t.errCode, pending := .idle,
      keyValid := t.keyValid, result := t.result, msgLen := t.msgLen, adLen := t.adLen, key := t.key, blk := t.blk,
      iv := t.iv, tag := t.tag, mem := t.mem, w := t.w, snb := t.snb, snk := t.snk } := by
  rcases exec_cases h with ⟨e, -, rfl⟩ | ⟨-, rfl⟩
  · rfl
  · exact congrArg (State.complete _) (effectOf_frame s i rfl)

/-- Only ZEROIZE writes KEY, IV and AD_LEN (10_state.md R25, R28, R30). -/
theorem effectOf_key_iv_adLen (s : State) {i : Instr} (h : i ≠ .zeroize) :
    (effectOf s i).1.key = s.key ∧ (effectOf s i).1.iv = s.iv ∧ (effectOf s i).1.adLen = s.adLen := by
  cases i with
  | zeroize => contradiction
  | ocbDec => rw [effectOf_ocbDec_frame]; exact ⟨rfl, rfl, rfl⟩
  | _ => exact ⟨rfl, rfl, rfl⟩

theorem effectOf_result (s : State) {i : Instr} (h : writesResult i = false) : (effectOf s i).1.result = s.result := by
  cases i with
  | sbox | invSbox | gf8Mul | gf8Inv | zeroize => contradiction
  | ocbDec => rw [effectOf_ocbDec_frame]
  | _ => rfl

theorem effectOf_blk (s : State) {i : Instr} (h : writesBlk i = false) : (effectOf s i).1.blk = s.blk := by
  cases i with
  | encBlock | decBlock | subBytes | invSubBytes | shiftRows | invShiftRows | mixColumns => contradiction
  | invMixColumns | addRoundKey | gf128Double | gf128Triple | zeroize => contradiction
  | ocbDec => rw [effectOf_ocbDec_frame]
  | _ => rfl

theorem effectOf_tag (s : State) {i : Instr} (h : writesTag i = false) : (effectOf s i).1.tag = s.tag := by
  cases i with
  | pmac | ocbEnc | zeroize => contradiction
  | ocbDec => rw [effectOf_ocbDec_frame]
  | _ => rfl

theorem effectOf_msgLen (s : State) {i : Instr} (h : writesMsgLen i = false) : (effectOf s i).1.msgLen = s.msgLen := by
  cases i with
  | cbcEnc | zeroize => contradiction
  | ocbDec => rw [effectOf_ocbDec_frame]
  | _ => rfl

/-- Only KEYEXP and ZEROIZE write the schedule and KEYVALID (10_state.md R22, R34). -/
theorem effectOf_schedule (s : State) {i : Instr} (h : writesSchedule i = false) :
    (effectOf s i).1.w = s.w ∧ (effectOf s i).1.snb = s.snb ∧ (effectOf s i).1.snk = s.snk ∧
      (effectOf s i).1.keyValid = s.keyValid := by
  cases i with
  | keyexp | zeroize => contradiction
  | ocbDec => rw [effectOf_ocbDec_frame]; exact ⟨rfl, rfl, rfl, rfl⟩
  | _ => exact ⟨rfl, rfl, rfl, rfl⟩

theorem effectOf_mem (s : State) {i : Instr} (h : writesMsg i = false) : (effectOf s i).1.mem = s.mem := by
  cases i with
  | cbcEnc | cbcDec | ocbEnc | ocbDec | zeroize => contradiction
  | _ => rfl

theorem eq_keyexp_or_zeroize {i : Instr} (h : writesSchedule i = true) : i = .keyexp ∨ i = .zeroize := by
  cases i with
  | keyexp => exact .inl rfl
  | zeroize => exact .inr rfl
  | _ => contradiction

/-- What a command other than ZEROIZE makes of the buffers: nothing, or one string over the start of MSG. -/
theorem effectOf_mem_cases (s : State) {i : Instr} (h : i ≠ .zeroize) :
    (effectOf s i).1.mem = s.mem ∨ ∃ m, (effectOf s i).1.mem = s.mem.writeBytes msgBase m := by
  cases hw : writesMsg i with
  | false => exact .inl (effectOf_mem s hw)
  | true =>
    cases i with
    | zeroize => contradiction
    | cbcEnc | cbcDec | ocbEnc => exact .inr ⟨_, rfl⟩
    | ocbDec =>
      simp only [effectOf]
      split
      · exact .inr ⟨_, rfl⟩
      · exact .inl rfl
    | _ => contradiction

/-- No command but ZEROIZE changes a byte below MSG, so none changes AD (10_state.md R33). -/
theorem effectOf_read_below_msg (s : State) {i : Instr} (h : i ≠ .zeroize) {a : Nat} (ha : a < 0x8000) :
    (effectOf s i).1.mem.read a = s.mem.read a := by
  rcases effectOf_mem_cases s h with hm | ⟨m, hm⟩ <;> rw [hm]
  exact Memory.read_writeBytes_outside _ _ (.inl ha)

/-- Settles O55: a failed check changes STATUS alone, and the effect of a command keeps within its write set. -/
theorem commandsWriteOnlyTheirTargets : Obligations.CommandsWriteOnlyTheirTargets := by
  intro i s t h
  refine ⟨?_, ?_, ?_, ?_, ?_, ?_, ?_, ?_, ?_, ?_, ?_, ?_, ?targets⟩
  case targets =>
    rcases exec_cases h with ⟨e, -, rfl⟩ | ⟨-, rfl⟩
    · simp
    · exact ⟨effectOf_key_iv_adLen s, effectOf_result s, effectOf_blk s, effectOf_tag s, effectOf_msgLen s,
        effectOf_schedule s, effectOf_mem s, fun hz _ ha => effectOf_read_below_msg s hz ha⟩
  all_goals rw [exec_frame h]

end Sys2Proof.Machine

/-! ## What every step keeps

A predicate is kept by every step when each of the updates that a step is made of keeps it. -/

namespace Sys2Proof.Machine

/-- The updates that steps are made of, each keeping `P`: the completions, the moves' bookkeeping, the reset input and
the writes of the bus. -/
structure StepKept (P : State → Prop) : Prop where
  resetClear : ∀ {s : State}, P s → P s.finishResetClear
  fails      : ∀ {s : State} (e : ErrorCode), P s → P (s.fail e)
  effect     : ∀ {s : State} (i : Instr), P s → firstFailing (checksOf s i) = none →
                 P ((effectOf s i).1.complete (effectOf s i).2)
  takeMove   : ∀ {s : State} (rest : List Move), P s → P (s.takeMove rest)
  respond    : ∀ {s : State} (r : List Response), P s → P { s with responses := r }
  reset      : ∀ {s : State}, P s → P s.applyReset
  setOvr     : ∀ {s : State}, P s → P s.setOvr
  store      : ∀ {s : State} {a : Access} (v : Word), P s → a.performed = true →
                 (s.busy = true → (targetOf s.params a.offset.toNat).lockedWhileBusy = false) →
                 P (s.storeTarget v (targetOf s.params a.offset.toNat))

variable {P : State → Prop} {s t : State}

theorem StepKept.access (k : StepKept P) (hs : P s) (a : Access) : P (s.access a) := by
  refine k.respond (s := s.afterAccess a) _ ?_
  rcases State.afterAccess_cases a s with h | ⟨v, -, -, -, -, h⟩ | ⟨v, -, hp, hl, h⟩ <;> rw [h]
  · exact hs
  · exact k.setOvr hs
  · exact k.store v hs hp hl

theorem StepKept.perform (k : StepKept P) (hs : P s) (m : Move) : P (s.perform m) := by
  cases m with
  | access a => exact k.access hs a
  | waitIdle => exact hs
  | reset => exact k.reset hs

theorem StepKept.exec (k : StepKept P) {i : Instr} (hs : P s) (h : exec i s = .next t) : P t := by
  rcases exec_cases h with ⟨e, -, rfl⟩ | ⟨hc, rfl⟩
  · exact k.fails e hs
  · exact k.effect i hs hc

/-- The induction step of every invariant, packaged once. -/
theorem StepKept.step (k : StepKept P) (hs : P s) (h : step s = .next t) : P t := by
  rcases step_cases h with
    ⟨-, -, rfl⟩ | ⟨w, i, -, -, -, he⟩ | ⟨w, e, -, -, -, rfl⟩ | ⟨m, rest, -, -, rfl⟩ | ⟨-, -, rfl⟩
  · exact k.resetClear hs
  · exact k.exec hs he
  · exact k.fails _ hs
  · exact k.perform (k.takeMove rest hs) m
  · exact hs

/-- Only word-aligned accesses are performed (20_memory.md R44). -/
theorem Access.aligned_of_performed {a : Access} (h : a.performed = true) : a.offset.toNat % 4 = 0 := by
  simp only [Access.performed, Bool.and_eq_true, beq_iff_eq] at h
  exact h.2

end Sys2Proof.Machine

/-! ## The lengths of what the modes write -/

namespace Sys2Proof.Machine

theorem length_cbcEncryptBlocks {E : Bytes → Bytes} {bs : Nat} (hE : ∀ x, (E x).length = bs) (prev : Bytes)
    (ps : List Bytes) : (cbcEncryptBlocks E prev ps).length = ps.length * bs := by
  induction ps generalizing prev with
  | nil => simp [cbcEncryptBlocks]
  | cons p ps ih => simp [cbcEncryptBlocks, ih, hE, Nat.add_mul, Nat.add_comm]

/-- The ciphertext is as long as the padded plaintext (44_cbc.md R109). -/
theorem length_cbcEncrypt {E : Bytes → Bytes} {bs : Nat} (hE : ∀ x, (E x).length = bs) (p iv : Bytes) :
    (cbcEncrypt E bs p iv).length = ceilDiv p.length bs * bs := by
  simp [cbcEncrypt, length_cbcEncryptBlocks hE]

theorem length_cbcDecryptBlocks_le {D : Bytes → Bytes} {bs : Nat} (hD : ∀ x, (D x).length = bs) (prev : Bytes)
    (cs : List Bytes) : (cbcDecryptBlocks D prev cs).length ≤ cs.length * bs := by
  induction cs generalizing prev with
  | nil => simp [cbcDecryptBlocks]
  | cons c cs ih =>
    have := ih c
    simp only [cbcDecryptBlocks, List.length_append, length_xorBytes, hD, List.length_cons, Nat.succ_mul]
    omega

theorem length_cbcDecrypt_le {D : Bytes → Bytes} {bs : Nat} (hD : ∀ x, (D x).length = bs) (c iv : Bytes) :
    (cbcDecrypt D bs c iv).length ≤ c.length :=
  calc (cbcDecrypt D bs c iv).length
    _ ≤ c.length / bs * bs := by
      simpa [cbcDecrypt] using length_cbcDecryptBlocks_le hD iv (splitBlocks bs (c.length / bs) c)
    _ ≤ c.length := Nat.div_mul_le_self _ _

/-- The blocks before the last lie within the string (46_ocb2_pmac.md R122). -/
theorem ocbFullBlocks_le (p : Bytes) : 16 * ocbFullBlocks p ≤ p.length := by
  simp only [ocbFullBlocks, ceilDiv]
  omega

/-- A step that appends at most 16 bytes, folded over k blocks, appends at most 16 k bytes. -/
theorem length_out_foldl_le {f : OcbAcc → Bytes → OcbAcc}
    (hf : ∀ acc b, (f acc b).out.length ≤ acc.out.length + 16) (acc : OcbAcc) (bs : List Bytes) :
    (bs.foldl f acc).out.length ≤ acc.out.length + 16 * bs.length := by
  induction bs generalizing acc with
  | nil => simp
  | cons b bs ih =>
    have h1 := ih (f acc b)
    have h2 := hf acc b
    simp only [List.foldl_cons, List.length_cons]
    omega

theorem length_out_ocbEncStep_le (E : Bytes → Bytes) (acc : OcbAcc) (p : Bytes) :
    (ocbEncStep E acc p).out.length ≤ acc.out.length + 16 := by
  simp only [ocbEncStep, List.length_append, length_xorBytes, length_gfDouble]
  omega

theorem length_out_ocbDecStep_le (D : Bytes → Bytes) (acc : OcbAcc) (c : Bytes) :
    (ocbDecStep D acc c).out.length ≤ acc.out.length + 16 := by
  simp only [ocbDecStep, List.length_append, length_xorBytes, length_gfDouble]
  omega

theorem length_ocbEncrypt_le (E : Bytes → Bytes) (header p iv : Bytes) :
    (ocbEncrypt E header p iv).1.length ≤ p.length := by
  have hfull := ocbFullBlocks_le p
  have hout := length_out_foldl_le (length_out_ocbEncStep_le E) ⟨E iv, zeroBytes 16, []⟩
    (splitBlocks 16 (ocbFullBlocks p) p)
  simp only [length_splitBlocks, List.length_nil] at hout
  simp only [ocbEncrypt, List.length_append, length_xorBytes, List.length_drop]
  omega

theorem length_ocbDecrypt_le (E D : Bytes → Bytes) (header c iv : Bytes) :
    (ocbDecrypt E D header c iv).1.length ≤ c.length := by
  have hfull := ocbFullBlocks_le c
  have hout := length_out_foldl_le (length_out_ocbDecStep_le D) ⟨E iv, zeroBytes 16, []⟩
    (splitBlocks 16 (ocbFullBlocks c) c)
  simp only [length_splitBlocks, List.length_nil] at hout
  simp only [ocbDecrypt, List.length_append, length_xorBytes, List.length_drop]
  omega

@[simp] theorem State.length_msgPart (s : State) (n : Nat) : (s.msgPart n).length = n := Memory.length_readBytes _ _ _

/-- CBC_ENC writes the padded message length, which its length check bounds by MSG_BYTES (44_cbc.md R112). -/
theorem State.length_cbcCiphertext (s : State) :
    s.cbcCiphertext.length = ceilDiv s.msgLen.toNat s.blockBytes * s.blockBytes := by
  rw [State.cbcCiphertext, length_cbcEncrypt (bs := s.blockBytes) (length_encrypt s), State.length_msgPart]

theorem State.length_cbcPlaintext_le (s : State) : s.cbcPlaintext.length ≤ s.msgLen.toNat := by
  rw [State.cbcPlaintext]
  exact (length_cbcDecrypt_le (length_decrypt s) _ _).trans_eq (s.length_msgPart _)

theorem State.length_ocbSealed_le (s : State) : s.ocbSealed.1.length ≤ s.msgLen.toNat := by
  rw [State.ocbSealed]
  exact (length_ocbEncrypt_le _ _ _ _).trans_eq (s.length_msgPart _)

theorem State.length_ocbOpened_le (s : State) : s.ocbOpened.1.length ≤ s.msgLen.toNat := by
  rw [State.ocbOpened]
  exact (length_ocbDecrypt_le _ _ _ _ _).trans_eq (s.length_msgPart _)

end Sys2Proof.Machine

/-! ## The memory stays canonical and inside the two buffers -/

namespace Sys2Proof.Machine

variable {s : State}

/-- A run of writes inside one of the buffers keeps the memory canonical and inside them. -/
theorem State.MemoryOk.writeBytes (hs : s.MemoryOk) {a : Nat} {b : Bytes}
    (hb : ∀ x, a ≤ x → x < a + b.length → bufferOffset s.params x) :
    State.MemoryOk { s with mem := s.mem.writeBytes a b } := by
  obtain ⟨hwf, hin⟩ := hs
  refine ⟨Memory.wf_writeBytes hwf a b, fun c hc => ?_⟩
  rcases Memory.mem_writeBytes hc with h | ⟨h1, h2⟩
  · exact hin c h
  · exact hb c.1 h1 h2

theorem State.MemoryOk.storeMsg (hs : s.MemoryOk) {m : Bytes} (hm : m.length ≤ s.params.msgBytes) :
    (s.storeMsg m).MemoryOk :=
  State.MemoryOk.writeBytes hs fun x h1 h2 => .inr ⟨h1, by simp only [msgBase] at h2; omega⟩

/-- Every command that writes MSG checks that what it writes fits (60_exceptions.md R129, code 6). -/
theorem State.MemoryOk.effectOf (hs : s.MemoryOk) {i : Instr} (h : firstFailing (checksOf s i) = none) :
    (effectOf s i).1.MemoryOk := by
  rw [firstFailing_eq_none] at h
  have fits (hc : s.msgLengthCheck ∈ checksOf s i) : s.msgLen.toNat ≤ s.params.msgBytes := by
    simpa using h _ hc
  cases i with
  | zeroize => exact ⟨Memory.wf_nil, by simp [Machine.effectOf]⟩
  | cbcEnc =>
    refine hs.storeMsg (m := s.cbcCiphertext) ?_
    rw [State.length_cbcCiphertext]
    simpa [State.blockBytes] using h s.paddedLengthCheck (by simp [checksOf])
  | cbcDec => exact hs.storeMsg (s.length_cbcPlaintext_le.trans (fits (by simp [checksOf])))
  | ocbEnc => exact hs.storeMsg (s.length_ocbSealed_le.trans (fits (by simp [checksOf])))
  | ocbDec =>
    simp only [Machine.effectOf]
    split
    · exact hs.storeMsg (s.length_ocbOpened_le.trans (fits (by simp [checksOf])))
    · exact hs
  | _ => exact hs

/-- An aligned word of a buffer lies in it whole: the buffer's base and size are multiples of 4 (00_scope.md R7). -/
theorem State.MemoryOk.storeTarget (hs : s.MemoryOk) {o : Nat} (ho : o % 4 = 0) (v : Word) :
    (s.storeTarget v (targetOf s.params o)).MemoryOk := by
  cases ht : targetOf s.params o with
  | ad a =>
    obtain ⟨rfl, ha⟩ := targetOf_eq_ad ht
    refine hs.writeBytes fun x h1 h2 => .inl ?_
    simp only [adBase, Config.Params.adBytes, List.length_cons, List.length_nil] at *
    omega
  | msg a =>
    obtain ⟨rfl, ha⟩ := targetOf_eq_msg ht
    refine hs.writeBytes fun x h1 h2 => .inr ?_
    simp only [msgBase, Config.Params.msgBytes, List.length_cons, List.length_nil] at *
    omega
  | _ => exact hs

theorem memoryOk_stepKept : StepKept State.MemoryOk where
  resetClear hs := hs
  fails _ hs := hs
  effect _ hs h := hs.effectOf h
  takeMove _ hs := hs
  respond _ hs := hs
  reset _ := ⟨Memory.wf_nil, by simp [State.applyReset, State.resetWith]⟩
  setOvr hs := hs
  store v hs hp _ := hs.storeTarget (Access.aligned_of_performed hp) v

/-- Settles O56: a step writes the buffers by runs of bytes that lie inside them. -/
theorem memoryStaysCanonical : Obligations.MemoryStaysCanonical := fun _ _ hs h => memoryOk_stepKept.step hs h

end Sys2Proof.Machine

/-! ## W stays the schedule of KEY -/

namespace Sys2Proof.Machine

variable {s : State}

/-- KEYEXP passes its checks exactly when CFG holds legal sizes (42_key_schedule.md R89). -/
theorem keyexp_passes_iff :
    firstFailing (checksOf s .keyexp) = none ↔ legalWords s.nb = true ∧ legalWords s.nk = true := by
  simp [firstFailing_eq_none, checksOf, and_comm]

theorem State.ScheduleOk.effectOf (hs : s.ScheduleOk) {i : Instr} (h : firstFailing (checksOf s i) = none) :
    (effectOf s i).1.ScheduleOk := by
  cases i with
  | keyexp =>
    obtain ⟨hnb, hnk⟩ := keyexp_passes_iff.mp h
    exact fun _ => ⟨hnb, hnk, rfl, rfl, rfl⟩
  | zeroize => exact nofun
  | ocbDec => rw [effectOf_ocbDec_frame]; exact hs
  | _ => exact hs

theorem State.ScheduleOk.storeTarget (hs : s.ScheduleOk) (v : Word) (t : Target) : (s.storeTarget v t).ScheduleOk := by
  cases t with
  | cfg | key => exact nofun
  | _ => exact hs

theorem scheduleOk_stepKept : StepKept State.ScheduleOk where
  resetClear hs := hs
  fails _ hs := hs
  effect _ hs h := hs.effectOf h
  takeMove _ hs := hs
  respond _ hs := hs
  reset _ := nofun
  setOvr hs := hs
  store v hs _ _ := hs.storeTarget v _

/-- Settles O57: KEYEXP makes the schedule that of KEY and CFG, and whatever changes one of them clears KEYVALID. -/
theorem scheduleStaysKeysOwn : Obligations.ScheduleStaysKeysOwn := fun _ _ hs h => scheduleOk_stepKept.step hs h

end Sys2Proof.Machine

/-! ## The geometry stays legal -/

namespace Sys2Proof.Machine

variable {s : State}

@[simp] theorem length_expandLoop (nk n : Nat) (rc : Byte) (ws : List SchedWord) :
    (expandLoop nk n rc ws).length = ws.length + n := by
  induction n generalizing rc ws with
  | zero => rfl
  | succ n ih =>
    simp only [expandLoop, ih, List.length_append, List.length_cons, List.length_nil]
    omega

/-- The key's own words fit in the schedule (42_key_schedule.md R84). -/
theorem le_scheduleLength {nb : Nat} (nk : Nat) (h : 0 < nb) : nk ≤ scheduleLength nb nk :=
  calc nk
    _ ≤ roundCount nb nk + 1 := by simp only [roundCount]; omega
    _ ≤ scheduleLength nb nk := Nat.le_mul_of_pos_left _ h

/-- The key schedule has Nb·(Nr+1) words (42_key_schedule.md R87). -/
theorem length_expandKey (key : Bytes) {nb : Nat} (h : 0 < nb) :
    (expandKey key nb).length = scheduleLength nb (key.length / 4) := by
  have := le_scheduleLength (key.length / 4) h
  simp only [expandKey, length_expandLoop, List.length_map, List.length_range]
  omega

/-- KEYEXP leaves zero words beyond the schedule (42_key_schedule.md R89). -/
theorem scheduleWord_scheduleOf_beyond (key : Vector Byte 32) {nb nk i : Nat} (hnb : 0 < nb) (hnk : nk ≤ 8)
    (hi : i < 120) (h : scheduleLength nb nk ≤ i) : scheduleWord (scheduleOf key nb nk) i = ⟨0, 0, 0, 0⟩ := by
  have hlen : (expandKey (firstBytes key (4 * nk)) nb).length = scheduleLength nb nk := by
    rw [length_expandKey _ hnb, length_firstBytes, show min (4 * nk) 32 / 4 = nk by omega]
  rw [scheduleWord, scheduleOf, Vector.getElem?_eq_getElem hi, Vector.getElem_ofFn, Option.getD_some,
    List.getD_eq_default _ _ (hlen ▸ h)]

theorem toNat_of_legalWords {n : BitVec 4} (h : legalWords n = true) : 0 < n.toNat ∧ n.toNat ≤ 8 := by
  rcases (legalWords_iff n).mp h with rfl | rfl | rfl <;> decide

/-- Cleared: no geometry and no schedule word, as after a reset and after ZEROIZE. -/
theorem geometryOk_of_cleared (hb : s.snb = 0) (hk : s.snk = 0) (hw : s.w = Vector.replicate 120 ⟨0, 0, 0, 0⟩) :
    s.GeometryOk :=
  ⟨.inl ⟨hb, hk⟩, fun i hi _ => by simp [scheduleWord, hw, hi]⟩

theorem State.GeometryOk.effectOf (hs : s.GeometryOk) {i : Instr} (h : firstFailing (checksOf s i) = none) :
    (effectOf s i).1.GeometryOk := by
  cases i with
  | keyexp =>
    obtain ⟨hnb, hnk⟩ := keyexp_passes_iff.mp h
    exact ⟨.inr ⟨hnb, hnk⟩, fun i hi hl =>
      scheduleWord_scheduleOf_beyond _ (toNat_of_legalWords hnb).1 (toNat_of_legalWords hnk).2 hi hl⟩
  | zeroize => exact geometryOk_of_cleared rfl rfl rfl
  | ocbDec => rw [effectOf_ocbDec_frame]; exact hs
  | _ => exact hs

theorem State.GeometryOk.storeTarget (hs : s.GeometryOk) (v : Word) (t : Target) : (s.storeTarget v t).GeometryOk := by
  cases t <;> exact hs

theorem geometryOk_stepKept : StepKept State.GeometryOk where
  resetClear hs := hs
  fails _ hs := hs
  effect _ hs h := hs.effectOf h
  takeMove _ hs := hs
  respond _ hs := hs
  reset _ := geometryOk_of_cleared rfl rfl rfl
  setOvr hs := hs
  store v hs _ _ := hs.storeTarget v _

/-- Settles O58: only KEYEXP, ZEROIZE and reset write the hidden schedule, the first for a legal CFG. -/
theorem geometryStaysLegal : Obligations.GeometryStaysLegal := fun _ _ hs h => geometryOk_stepKept.step hs h

end Sys2Proof.Machine

/-! ## BUSY, PENDING, CMD, DONE and ERRCODE stay consistent -/

namespace Sys2Proof.Machine

variable {s : State}

/-- BUSY = 0 refers to nothing. -/
theorem engineOk_of_idle (h : s.pending = .idle) : s.EngineOk := by simp [State.EngineOk, h]

theorem engineOk_accept (s : State) (v : Word) : (s.accept v).EngineOk := by
  simp [State.EngineOk]

theorem engineOk_applyReset (s : State) : s.applyReset.EngineOk :=
  ⟨nofun, fun _ => ⟨rfl, rfl, rfl, rfl, rfl, rfl⟩⟩

/-- What the outside world can change while something is pending: CTRL, OVR, DONE only downwards, and the model's own
fields. None of it is what BUSY refers to. -/
theorem State.EngineOk.outside (hs : s.EngineOk) (irqEn ovr done : Bool) (inputs : List Move) (r : List Response)
    (delay : Nat) (hd : s.done = false → done = false) :
    State.EngineOk
      { s with irqEn := irqEn, ovr := ovr, done := done, inputs := inputs, responses := r, delay := delay } := by
  obtain ⟨hcommand, hclear⟩ := hs
  refine ⟨fun v hv => ?_, fun hp => ?_⟩
  · obtain ⟨hc, hdone, he⟩ := hcommand v hv
    exact ⟨hc, hd hdone, he⟩
  · obtain ⟨hdone, he, hnb, hnk, hc, hz⟩ := hclear hp
    exact ⟨hd hdone, he, hnb, hnk, hc, congrArg
      (fun u : State =>
        { u with irqEn := irqEn, ovr := ovr, done := done, inputs := inputs, responses := r, delay := delay }) hz⟩

/-- A write that changes what BUSY refers to is locked while BUSY = 1 (10_state.md R42). -/
theorem State.EngineOk.storeTarget (hs : s.EngineOk) (v : Word) {t : Target}
    (hl : s.busy = true → t.lockedWhileBusy = false) : (s.storeTarget v t).EngineOk := by
  have idle (h : t.lockedWhileBusy = true) : s.pending = .idle := by
    rw [← State.busy_eq_false_iff, Bool.eq_false_iff]
    exact fun hb => by simp [hl hb] at h
  cases t with
  | ctrl => exact hs.outside _ _ _ _ _ _ id
  | status => exact hs.outside _ _ _ _ _ _ fun h => by simp [h]
  | cmd => exact engineOk_accept s v
  | id | result | msgSize | adSize | reserved => exact hs
  | _ => exact engineOk_of_idle (idle rfl)

theorem engineOk_stepKept : StepKept State.EngineOk where
  resetClear _ := engineOk_of_idle rfl
  fails _ _ := engineOk_of_idle rfl
  effect _ _ _ := engineOk_of_idle rfl
  takeMove _ hs := hs.outside _ _ _ _ _ _ id
  respond _ hs := hs.outside _ _ _ _ _ _ id
  reset _ := engineOk_applyReset _
  setOvr hs := hs.outside _ _ _ _ _ _ id
  store v hs _ hl := hs.storeTarget v hl

/-- Settles O59: a completion leaves nothing pending, an acceptance and a reset set what BUSY then refers to, and no
other move touches it. -/
theorem engineStaysConsistent : Obligations.EngineStaysConsistent := fun _ _ hs h => engineOk_stepKept.step hs h

end Sys2Proof.Machine

/-! ## The bus port: one rule per address and per direction -/

namespace Sys2Proof.Machine

open Sys2Proof.Claim

/-- An aligned word read answers with the value of its target (20_memory.md R44). -/
theorem responseTo_readAt (s : State) {o : BitVec 16} (ho : o.toNat % 4 = 0) :
    s.responseTo (readAt o) = ⟨.okay, some (s.readTarget (targetOf s.params o.toNat))⟩ := by
  simp [State.responseTo, readAt, Access.performed, ho]

/-- An aligned word write is the write of its target (20_memory.md R44). -/
theorem afterAccess_writeAt (s : State) {o : BitVec 16} (v : Word) (ho : o.toNat % 4 = 0) :
    s.afterAccess (writeAt o v) = s.writeTarget (targetOf s.params o.toNat) v := by
  simp [State.afterAccess, writeAt, Access.performed, ho]

/-- A performed write access is the aligned word write of its offset. -/
theorem Access.eq_writeAt {a : Access} {v : Word} (hp : a.performed = true) (hd : a.dir = .write v) :
    a = writeAt a.offset v := by
  obtain ⟨o, width, lanes, dir⟩ := a
  simp only [Access.performed, Bool.and_eq_true, beq_iff_eq] at hp
  obtain ⟨⟨rfl, rfl⟩, -⟩ := hp
  simp_all [writeAt]

/-! ### Reads and writes of a target -/

section
variable {s : State} {t : Target}

theorem readTarget_of_shown (s : State) (h : t.hiddenWhileBusy = false) : s.readTarget t = s.valueOf t := by
  simp [State.readTarget, h]

theorem readTarget_of_hidden (hb : s.busy = true) (h : t.hiddenWhileBusy = true) : s.readTarget t = 0 := by
  simp [State.readTarget, hb, h]

theorem readTarget_of_idle (hi : s.pending = .idle) (t : Target) : s.readTarget t = s.valueOf t := by
  simp [State.readTarget, s.busy_eq_false_iff.mpr hi]

theorem writeTarget_of_unlocked (s : State) (v : Word) (h : t.lockedWhileBusy = false) :
    s.writeTarget t v = s.storeTarget v t := by simp [State.writeTarget, h]

theorem writeTarget_of_locked (v : Word) (hb : s.busy = true) (h : t.lockedWhileBusy = true) :
    s.writeTarget t v = s.setOvr := by simp [State.writeTarget, hb, h]

theorem writeTarget_of_idle (hi : s.pending = .idle) (t : Target) (v : Word) :
    s.writeTarget t v = s.storeTarget v t := by simp [State.writeTarget, s.busy_eq_false_iff.mpr hi]

end

/-! ### The address map by offset -/

/-- The whole address map (20_memory.md R47, R48): the single registers, the reserved rest, and the windows. -/
theorem targetOf_cases (p : Config.Params) (o : Nat) :
    (o < 0x040 ∧ targetOf p o = controlTarget o) ∨
    ((0x0B0 ≤ o ∧ ¬ inAd p o ∧ ¬ inMsg p o) ∧ targetOf p o = .reserved) ∨
    ((0x040 ≤ o ∧ o < 0x060) ∧ targetOf p o = .key ((o - 0x040) / 4)) ∨
    ((0x060 ≤ o ∧ o < 0x080) ∧ targetOf p o = .blk ((o - 0x060) / 4)) ∨
    ((0x080 ≤ o ∧ o < 0x0A0) ∧ targetOf p o = .iv ((o - 0x080) / 4)) ∨
    ((0x0A0 ≤ o ∧ o < 0x0B0) ∧ targetOf p o = .tag ((o - 0x0A0) / 4)) ∨
    (inAd p o ∧ targetOf p o = .ad (o - 0x2000)) ∨
    (inMsg p o ∧ targetOf p o = .msg (o - 0x8000)) := by
  have had : adBase = 0x2000 := rfl
  have hmsg : msgBase = 0x8000 := rfl
  unfold targetOf
  split_ifs with hc hkey hblk hiv htag hin hin
  · exact .inl ⟨hc, rfl⟩
  · exact .inr (.inr (.inl ⟨by omega, rfl⟩))
  · exact .inr (.inr (.inr (.inl ⟨by omega, rfl⟩)))
  · exact .inr (.inr (.inr (.inr (.inl ⟨by omega, rfl⟩))))
  · exact .inr (.inr (.inr (.inr (.inr (.inl ⟨by omega, rfl⟩)))))
  · exact .inr (.inr (.inr (.inr (.inr (.inr (.inl ⟨hin, rfl⟩))))))
  · exact .inr (.inr (.inr (.inr (.inr (.inr (.inr ⟨hin, rfl⟩))))))
  · exact .inr (.inl ⟨by omega, rfl⟩)

theorem hiddenWhileBusy_controlTarget :
    ∀ o < 0x040, (controlTarget o).hiddenWhileBusy = true ↔ o = 0x014 ∨ o = 0x018 ∨ o = 0x01C := by decide

theorem lockedWhileBusy_controlTarget :
    ∀ o < 0x040, (controlTarget o).lockedWhileBusy = true ↔ o = 0x008 ∨ o = 0x00C ∨ o = 0x018 ∨ o = 0x01C := by decide

/-- The targets that read 0 while BUSY = 1 stand at the data offsets (10_state.md R42 (b)). -/
theorem hiddenWhileBusy_targetOf (p : Config.Params) (o : Nat) :
    (targetOf p o).hiddenWhileBusy = true ↔ dataOffset p o := by
  rcases targetOf_cases p o with
    ⟨hlt, ho⟩ | ⟨h, ho⟩ | ⟨h, ho⟩ | ⟨h, ho⟩ | ⟨h, ho⟩ | ⟨h, ho⟩ | ⟨h, ho⟩ | ⟨h, ho⟩ <;>
  rw [ho]
  · rw [hiddenWhileBusy_controlTarget o hlt]
    omega
  · exact iff_of_false Bool.false_ne_true (by omega)
  all_goals exact iff_of_true rfl (by omega)

/-- The targets that writes are ignored to while BUSY = 1 stand at the locked offsets (10_state.md R42 (d)). -/
theorem lockedWhileBusy_targetOf (p : Config.Params) (o : Nat) :
    (targetOf p o).lockedWhileBusy = true ↔ lockedOffset p o := by
  rcases targetOf_cases p o with
    ⟨hlt, ho⟩ | ⟨h, ho⟩ | ⟨h, ho⟩ | ⟨h, ho⟩ | ⟨h, ho⟩ | ⟨h, ho⟩ | ⟨h, ho⟩ | ⟨h, ho⟩ <;>
  rw [ho]
  · rw [lockedWhileBusy_controlTarget o hlt]
    omega
  · exact iff_of_false Bool.false_ne_true (by omega)
  all_goals exact iff_of_true rfl (by omega)

/-- CTRL, CFG and STATUS stand at one offset alone (10_state.md R15). -/
theorem offset_of_targetOf (p : Config.Params) (o : Nat) :
    (targetOf p o = .ctrl → o = 0x004) ∧ (targetOf p o = .cfg → o = 0x008) ∧ (targetOf p o = .status → o = 0x010) := by
  rcases targetOf_cases p o with
    ⟨hlt, ho⟩ | ⟨-, ho⟩ | ⟨-, ho⟩ | ⟨-, ho⟩ | ⟨-, ho⟩ | ⟨-, ho⟩ | ⟨-, ho⟩ | ⟨-, ho⟩ <;>
  rw [ho]
  · have control : ∀ o < 0x040, (controlTarget o = .ctrl → o = 0x004) ∧ (controlTarget o = .cfg → o = 0x008) ∧
        (controlTarget o = .status → o = 0x010) := by decide
    exact control o hlt
  all_goals exact ⟨nofun, nofun, nofun⟩

/-- KEY stands at 0x040 to 0x05F, word k at 0x040 + 4 k (10_state.md R15). -/
theorem targetOf_eq_key_iff (p : Config.Params) (o k : Nat) :
    targetOf p o = .key k ↔ (0x040 ≤ o ∧ o < 0x060) ∧ k = (o - 0x040) / 4 := by
  rcases targetOf_cases p o with
    ⟨hlt, ho⟩ | ⟨h, ho⟩ | ⟨h, ho⟩ | ⟨h, ho⟩ | ⟨h, ho⟩ | ⟨h, ho⟩ | ⟨h, ho⟩ | ⟨h, ho⟩ <;>
  rw [ho]
  · refine iff_of_false ?_ (by omega)
    unfold controlTarget
    split <;> nofun
  · exact iff_of_false nofun (by omega)
  · simp [h, eq_comm]
  all_goals exact iff_of_false nofun (by omega)

end Sys2Proof.Machine

/-! ### An access to a known target -/

namespace Sys2Proof.Machine

open Sys2Proof.Claim

section
variable {s : State} {o : BitVec 16} {t : Target}

theorem responseTo_shown (ho : o.toNat % 4 = 0) (ht : targetOf s.params o.toNat = t) (h : t.hiddenWhileBusy = false) :
    s.responseTo (readAt o) = ⟨.okay, some (s.valueOf t)⟩ := by
  rw [responseTo_readAt s ho, ht, readTarget_of_shown s h]

theorem responseTo_idle (hi : s.pending = .idle) (ho : o.toNat % 4 = 0) (ht : targetOf s.params o.toNat = t) :
    s.responseTo (readAt o) = ⟨.okay, some (s.valueOf t)⟩ := by
  rw [responseTo_readAt s ho, ht, readTarget_of_idle hi]

theorem afterAccess_unlocked (v : Word) (ho : o.toNat % 4 = 0) (ht : targetOf s.params o.toNat = t)
    (h : t.lockedWhileBusy = false) : s.afterAccess (writeAt o v) = s.storeTarget v t := by
  rw [afterAccess_writeAt s v ho, ht, writeTarget_of_unlocked s v h]

theorem afterAccess_idle (v : Word) (hi : s.pending = .idle) (ho : o.toNat % 4 = 0)
    (ht : targetOf s.params o.toNat = t) : s.afterAccess (writeAt o v) = s.storeTarget v t := by
  rw [afterAccess_writeAt s v ho, ht, writeTarget_of_idle hi]

end

/-- Besides CTRL and STATUS, what BUSY = 1 does not lock ignores writes anyway (10_state.md R42 (e)). -/
theorem storeTarget_of_unlocked (s : State) (v : Word) {t : Target} (h : t.lockedWhileBusy = false) (hc : t ≠ .ctrl)
    (hs : t ≠ .status) : s.storeTarget v t = s := by
  cases t with
  | id | result | msgSize | adSize | reserved => rfl
  | _ => contradiction

/-! ### The register words -/

/-- CTRL reads IRQ_EN in bit 0 (10_state.md R18). -/
theorem State.ctrl_eq (s : State) : s.ctrl = if s.irqEn then 1 else 0 := by
  cases h : s.irqEn <;> simp [State.ctrl, h]

/-- CFG reads NB in bits 3:0 and NK in bits 7:4 (10_state.md R19). -/
theorem State.cfg_eq (s : State) : s.cfg = BitVec.ofNat 32 (s.nb.toNat + 16 * s.nk.toNat) := by
  apply BitVec.eq_of_toNat_eq
  simp only [State.cfg, BitVec.toNat_append, BitVec.ofNat_eq_ofNat, BitVec.toNat_ofNat, Nat.zero_mod,
    Nat.zero_shiftLeft, Nat.zero_or]
  rw [← Nat.shiftLeft_add_eq_or_of_lt s.nb.isLt, Nat.shiftLeft_eq]
  omega

/-- Settles O12: of the targets, the hidden ones read 0, the locked ones only set OVR, and the rest behave as ever. -/
theorem accessesWhileBusy : Obligations.AccessesWhileBusy := by
  intro s o v hb ho
  refine ⟨?id, ?ctrl, ?cfg, ?cmd, ?status, ?msgSize, ?adSize, ?data, ?writeCtrl, ?writeStatus, ?locked, ?ignored⟩
  case id => rintro rfl; exact responseTo_shown (t := .id) ho rfl rfl
  case ctrl => rintro rfl; rw [← s.ctrl_eq]; exact responseTo_shown (t := .ctrl) ho rfl rfl
  case cfg => rintro rfl; rw [← s.cfg_eq]; exact responseTo_shown (t := .cfg) ho rfl rfl
  case cmd => rintro rfl; exact responseTo_shown (t := .cmd) ho rfl rfl
  case status => rintro rfl; exact responseTo_shown (t := .status) ho rfl rfl
  case msgSize => rintro rfl; exact responseTo_shown (t := .msgSize) ho rfl rfl
  case adSize => rintro rfl; exact responseTo_shown (t := .adSize) ho rfl rfl
  case data =>
    intro h
    rw [responseTo_readAt s ho, readTarget_of_hidden hb ((hiddenWhileBusy_targetOf _ _).mpr h)]
  case writeCtrl => rintro rfl; exact afterAccess_unlocked (t := .ctrl) v ho rfl rfl
  case writeStatus => rintro rfl; exact afterAccess_unlocked (t := .status) v ho rfl rfl
  case locked =>
    intro h
    exact (afterAccess_writeAt s v ho).trans (writeTarget_of_locked v hb ((lockedWhileBusy_targetOf _ _).mpr h))
  case ignored =>
    intro hl hctrl hstatus
    rw [← lockedWhileBusy_targetOf, Bool.not_eq_true] at hl
    obtain ⟨ctrlAt, -, statusAt⟩ := offset_of_targetOf s.params o.toNat
    rw [afterAccess_unlocked v ho rfl hl]
    exact storeTarget_of_unlocked s v hl (fun h => hctrl (BitVec.eq_of_toNat_eq (ctrlAt h)))
      (fun h => hstatus (BitVec.eq_of_toNat_eq (statusAt h)))

/-- Settles O17: an idle CORE stores to CFG and to a word of KEY, and both stores clear KEYVALID. -/
theorem cfgAndKeyWritesClearKeyvalid : Obligations.CfgAndKeyWritesClearKeyvalid := by
  intro s v hi
  refine ⟨afterAccess_idle (t := .cfg) v hi rfl rfl, fun k hk => ?_⟩
  have ho : (BitVec.ofNat 16 (0x040 + 4 * k)).toNat = 0x040 + 4 * k := by
    rw [BitVec.toNat_ofNat]
    omega
  have ht : targetOf s.params (BitVec.ofNat 16 (0x040 + 4 * k)).toNat = .key k := by
    rw [ho, targetOf_eq_key_iff]
    omega
  refine ⟨_, afterAccess_idle v hi (by omega) ht, rfl, fun j hj => ?_⟩
  exact byteOf_setWordOf s.key k v hj

/-- Settles O19: none of these targets is hidden or locked while BUSY = 1, and an idle CORE hides nothing. -/
theorem ctrlAndReadOnlyRegisters : Obligations.CtrlAndReadOnlyRegisters := by
  refine ⟨fun s v => ⟨?_, ?_, ?_, ?_, ?_, ?_, ?_, ?_, ?_⟩, fun s hi => ⟨?_, ?_, ?_, ?_, ?_⟩⟩
  · exact afterAccess_unlocked (t := .ctrl) v rfl rfl rfl
  · rw [← s.ctrl_eq]; exact responseTo_shown (t := .ctrl) rfl rfl rfl
  · exact responseTo_shown (t := .id) rfl rfl rfl
  · exact responseTo_shown (t := .msgSize) rfl rfl rfl
  · exact responseTo_shown (t := .adSize) rfl rfl rfl
  · exact afterAccess_unlocked (t := .id) v rfl rfl rfl
  · exact afterAccess_unlocked (t := .result) v rfl rfl rfl
  · exact afterAccess_unlocked (t := .msgSize) v rfl rfl rfl
  · exact afterAccess_unlocked (t := .adSize) v rfl rfl rfl
  · rw [← s.cfg_eq]; exact responseTo_idle (t := .cfg) hi rfl rfl
  · exact responseTo_idle (t := .cmd) hi rfl rfl
  · rw [BitVec.ofNat_toNat]; exact responseTo_idle (t := .result) hi rfl rfl
  · exact responseTo_idle (t := .msgLen) hi rfl rfl
  · exact responseTo_idle (t := .adLen) hi rfl rfl

/-! ### STATUS -/

/-- Bits 4:0 of STATUS (10_state.md R21). -/
theorem State.status_flags (s : State) :
    s.status.getLsbD 0 = s.busy ∧ s.status.getLsbD 1 = s.done ∧ s.status.getLsbD 2 = s.err ∧
      s.status.getLsbD 3 = s.keyValid ∧ s.status.getLsbD 4 = s.ovr := by
  simp only [State.status, BitVec.getLsbD_append]
  simp

/-- Bits 11:8 of STATUS are the number of the error (60_exceptions.md R128). -/
theorem State.status_errCode (s : State) : s.status.extractLsb' 8 4 = s.errCode.code := by
  ext i hi
  simp only [State.status, BitVec.getLsbD_append, BitVec.getElem_extractLsb']
  simp [hi]

theorem State.status_reserved (s : State) : s.status.extractLsb' 5 3 = 0 ∧ s.status.extractLsb' 12 20 = 0 := by
  constructor <;> ext i hi <;> simp only [State.status, BitVec.getLsbD_append, BitVec.getElem_extractLsb']
  · simp
    omega
  · simp
    omega

/-- Settles O20: STATUS is neither hidden nor locked while BUSY = 1, and its word is its fields side by side. -/
theorem statusBitsAndWrites : Obligations.StatusBitsAndWrites := by
  intro s v
  obtain ⟨hbusy, hdone, herr, hkey, hovr⟩ := s.status_flags
  obtain ⟨hlow, hhigh⟩ := s.status_reserved
  refine ⟨responseTo_shown (t := .status) rfl rfl rfl, ?_, hdone, ?_, hkey, hovr, hlow, ?_, hhigh,
    afterAccess_unlocked (t := .status) v rfl rfl rfl⟩
  · rw [hbusy, State.busy_eq_true_iff]
  · rw [herr, s.status_errCode, State.err, bne_iff_ne]
  · rw [s.status_errCode]
    cases s.errCode <;> rfl

end Sys2Proof.Machine

/-! ## KEYVALID -/

namespace Sys2Proof

/-- The fields of a word make up the word (30_encoding.md R57). -/
theorem wordOfFields_fieldsOf (w : Word) : wordOfFields (fieldsOf w) = w := by
  apply BitVec.eq_of_getLsbD_eq
  intro i hi
  simp only [wordOfFields, fieldsOf, BitVec.getLsbD_append, BitVec.getLsbD_extractLsb']
  split_ifs
  all_goals
    rw [decide_eq_true (by omega), Bool.true_and]
    congr 1
    omega

theorem decodeNone_eq_ok {c : Cmd32} {i j : Instr} :
    decodeNone c j = .ok i ↔ (c.a = 0 ∧ c.b = 0 ∧ c.z = 0) ∧ j = i := by
  unfold decodeNone
  split <;> simp_all

theorem decodeA_eq_ok {c : Cmd32} {i : Instr} {j : Byte → Instr} :
    decodeA c j = .ok i ↔ (c.b = 0 ∧ c.z = 0) ∧ j c.a = i := by
  unfold decodeA
  split <;> simp_all

theorem decodeAB_eq_ok {c : Cmd32} {i : Instr} {j : Byte → Byte → Instr} :
    decodeAB c j = .ok i ↔ c.z = 0 ∧ j c.a c.b = i := by
  unfold decodeAB
  split <;> simp_all

/-- The decoder drops no bit: fields that decode to a command are the command's own (30_encoding.md R60). -/
theorem encodeFields_of_decodeFields {c : Cmd32} {i : Instr} (h : decodeFields c = .ok i) : encodeFields i = c := by
  obtain ⟨op, a, b, z⟩ := c
  unfold decodeFields at h
  split at h
  all_goals
    rename_i hop
    simp only [decodeNone_eq_ok, decodeA_eq_ok, decodeAB_eq_ok, reduceCtorEq] at h
  all_goals
    have hbyte : op = BitVec.ofNat 8 op.toNat := by simp
    rw [hop] at hbyte
    obtain ⟨h, rfl⟩ := h
    simp_all [encodeFields]

theorem encode_of_decode {w : Word} {i : Instr} (h : decode w = .ok i) : encode i = w := by
  rw [encode, encodeFields_of_decodeFields h, wordOfFields_fieldsOf]

theorem word_of_decode_keyexp {w : Word} (h : decode w = .ok .keyexp) : w = 0x00000002 := (encode_of_decode h).symm

theorem word_of_decode_zeroize {w : Word} (h : decode w = .ok .zeroize) : w = 0x00000001 := (encode_of_decode h).symm

end Sys2Proof

namespace Sys2Proof.Machine

open Sys2Proof.Claim

variable {s t : State}

/-! ### A completion -/

/-- A command that fails, by a check or at the end of its pseudocode, leaves KEYVALID. -/
theorem exec_error_keyValid {i : Instr} (h : exec i s = .next t) (he : t.errCode ≠ .noError) :
    t.keyValid = s.keyValid := by
  rcases exec_cases h with ⟨e, -, rfl⟩ | ⟨-, rfl⟩
  · rfl
  · cases hw : writesSchedule i with
    | false =>
      obtain ⟨-, -, -, hv⟩ := effectOf_schedule s hw
      exact hv
    | true => rcases eq_keyexp_or_zeroize hw with rfl | rfl <;> exact absurd rfl he

/-- What a command can make of KEYVALID: KEYEXP sets it when it succeeds, ZEROIZE clears it. -/
theorem exec_keyValid_cases {i : Instr} (h : exec i s = .next t) :
    t.keyValid = s.keyValid ∨ (i = .keyexp ∧ t.keyValid = true ∧ t.errCode = .noError) ∨
      (i = .zeroize ∧ t.keyValid = false) := by
  rcases exec_cases h with ⟨e, -, rfl⟩ | ⟨-, rfl⟩
  · exact .inl rfl
  · cases hw : writesSchedule i with
    | false =>
      obtain ⟨-, -, -, hv⟩ := effectOf_schedule s hw
      exact .inl hv
    | true =>
      rcases eq_keyexp_or_zeroize hw with rfl | rfl
      · exact .inr (.inl ⟨rfl, rfl, rfl⟩)
      · exact .inr (.inr ⟨rfl, rfl⟩)

/-! ### An access -/

/-- A store leaves KEYVALID, or it is one to CFG or KEY and clears it. -/
theorem storeTarget_keyValid_cases (s : State) (v : Word) (t : Target) :
    (s.storeTarget v t).keyValid = s.keyValid ∨
      ((t = .cfg ∨ ∃ k, t = .key k) ∧ (s.storeTarget v t).keyValid = false) := by
  cases t with
  | cfg => exact .inr ⟨.inl rfl, rfl⟩
  | key k => exact .inr ⟨.inr ⟨k, rfl⟩, rfl⟩
  | _ => exact .inl rfl

/-- CFG and KEY stand at 0x008 and at 0x040 to 0x05F (10_state.md R15). -/
theorem targetOf_cfg_or_key_iff (p : Config.Params) (o : BitVec 16) :
    (targetOf p o.toNat = .cfg ∨ ∃ k, targetOf p o.toNat = .key k) ↔
      o = 0x008 ∨ (0x040 ≤ o.toNat ∧ o.toNat < 0x060) := by
  simp only [targetOf_eq_key_iff, exists_and_left, exists_eq, and_true]
  refine or_congr_left ⟨fun h => BitVec.eq_of_toNat_eq ((offset_of_targetOf p o.toNat).2.1 h), ?_⟩
  rintro rfl
  rfl

/-- An access leaves KEYVALID, or it is an accepted write to CFG or KEY (10_state.md R22, R42). -/
theorem afterAccess_keyValid_cases (s : State) (a : Access) :
    (s.afterAccess a).keyValid = s.keyValid ∨
      ((s.afterAccess a).keyValid = false ∧ s.pending = .idle ∧
        ∃ v, a = writeAt a.offset v ∧ (a.offset = 0x008 ∨ (0x040 ≤ a.offset.toNat ∧ a.offset.toNat < 0x060))) := by
  rcases State.afterAccess_cases a s with h | ⟨v, -, -, -, -, h⟩ | ⟨v, hd, hp, hl, h⟩ <;> rw [h]
  · exact .inl rfl
  · exact .inl rfl
  · rcases storeTarget_keyValid_cases s v (targetOf s.params a.offset.toNat) with hk | ⟨ht, hk⟩
    · exact .inl hk
    · refine .inr ⟨hk, ?_, v, Access.eq_writeAt hp hd, (targetOf_cfg_or_key_iff _ _).mp ht⟩
      rw [← State.busy_eq_false_iff, Bool.eq_false_iff]
      intro hb
      rcases ht with ht | ⟨k, ht⟩ <;> exact absurd (hl hb) (by simp [ht, Target.lockedWhileBusy])

/-- An idle CORE clears KEYVALID at a write to CFG or KEY (10_state.md R22). -/
theorem writeAt_clears_keyValid {o : BitVec 16} (v : Word) (hi : s.pending = .idle) (ha : o.toNat % 4 = 0)
    (ho : o = 0x008 ∨ (0x040 ≤ o.toNat ∧ o.toNat < 0x060)) : (s.afterAccess (writeAt o v)).keyValid = false := by
  rcases (targetOf_cfg_or_key_iff s.params o).mpr ho with ht | ⟨k, ht⟩ <;> rw [afterAccess_idle v hi ha ht] <;> rfl

/-! ### A step -/

/-- Everything a step can make of KEYVALID. -/
theorem step_keyValid_cases (h : step s = .next t) :
    t.keyValid = s.keyValid ∨ (t.keyValid = true ∧ s.pending = .command 0x00000002 ∧ t.errCode = .noError) ∨
      (t.keyValid = false ∧
        ((∃ rest, s.inputs = .reset :: rest) ∨ s.pending = .command 0x00000001 ∨
          (s.pending = .idle ∧ ∃ (o : BitVec 16) (v : Word) (rest : List Move),
            s.inputs = .access (writeAt o v) :: rest ∧ (o = 0x008 ∨ (0x040 ≤ o.toNat ∧ o.toNat < 0x060))))) := by
  rcases step_cases h with
    ⟨-, -, rfl⟩ | ⟨w, i, -, hw, hd, he⟩ | ⟨w, e, -, -, -, rfl⟩ | ⟨m, rest, -, hm, rfl⟩ | ⟨-, -, rfl⟩
  case inr.inl =>
    rcases exec_keyValid_cases he with hk | ⟨rfl, hk, hc⟩ | ⟨rfl, hk⟩
    · exact .inl hk
    · exact .inr (.inl ⟨hk, word_of_decode_keyexp hd ▸ hw, hc⟩)
    · exact .inr (.inr ⟨hk, .inr (.inl (word_of_decode_zeroize hd ▸ hw))⟩)
  case inr.inr.inr.inl =>
    cases m with
    | waitIdle => exact .inl rfl
    | reset => exact .inr (.inr ⟨rfl, .inl ⟨rest, hm⟩⟩)
    | access a =>
      rcases afterAccess_keyValid_cases (s.takeMove rest) a with hk | ⟨hk, hi, v, ha, ho⟩
      · exact .inl hk
      · exact .inr (.inr ⟨hk, .inr (.inr ⟨hi, a.offset, v, rest, ha ▸ hm, ho⟩)⟩)
  all_goals exact .inl rfl

/-- Settles O21: KEYVALID is written by KEYEXP, ZEROIZE, the reset and the two kinds of write alone. -/
theorem keyvalidChangesOnlyAsSaid : Obligations.KeyvalidChangesOnlyAsSaid := by
  refine ⟨fun s t h => ?steps, fun _ => rfl, fun s => ?zeroize, ?writes, ?failed⟩
  case steps =>
    rcases step_keyValid_cases h with hk | ⟨hk, hw, he⟩ | ⟨hk, hwhy⟩
    · constructor <;> intro hs ht <;> simp [hk, hs] at ht
    · exact ⟨fun _ _ => ⟨hw, he⟩, fun _ hf => absurd (hk.symm.trans hf) (by decide)⟩
    · exact ⟨fun _ ht => absurd (ht.symm.trans hk) (by decide), fun _ _ => hwhy⟩
  case zeroize => exact ⟨_, exec_of_passes rfl, rfl⟩
  case writes => exact fun s o v hi ha ho => writeAt_clears_keyValid v hi ha ho
  case failed => exact fun i s t h he => exec_error_keyValid h he

end Sys2Proof.Machine

/-! ## Performed and refused accesses -/

namespace Sys2Proof.Machine

open Sys2Proof.Claim

section
variable {a : Access}

/-- An access is performed exactly when it is 32 bits wide, whole and aligned (20_memory.md R44). -/
theorem Access.performed_iff :
    a.performed = true ↔ a.width = 4 ∧ a.allLanes = true ∧ a.offset.toNat % 4 = 0 := by
  simp [Access.performed, and_assoc]

theorem Access.performed_eq_false_iff :
    a.performed = false ↔ a.width ≠ 4 ∨ a.allLanes = false ∨ a.offset.toNat % 4 ≠ 0 := by
  rw [← Bool.not_eq_true, Access.performed_iff, not_and_or, not_and_or, Bool.not_eq_true]

theorem afterAccess_of_refused (s : State) (h : a.performed = false) : s.afterAccess a = s := by
  simp [State.afterAccess, h]

/-- A refused access answers ERROR, and a refused read has the data 0 (20_memory.md R44). -/
theorem responseTo_of_refused (s : State) (h : a.performed = false) :
    s.responseTo a = ⟨.error, if a.dir = .read then some 0 else none⟩ := by
  cases hd : a.dir <;> simp [State.responseTo, h, hd]

theorem code_responseTo_of_performed (s : State) (h : a.performed = true) : (s.responseTo a).code = .okay := by
  cases hd : a.dir <;> simp [State.responseTo, h, hd]

end

/-- Settles O13: the three conditions are what makes CORE perform an access, and all else is refused. -/
theorem onlyAlignedWordsArePerformed : Obligations.OnlyAlignedWordsArePerformed := by
  intro s a
  refine ⟨fun h => ?refused, fun hw hl ho => ?performed⟩
  case refused =>
    have hp := Access.performed_eq_false_iff.mpr h
    rw [responseTo_of_refused s hp]
    exact ⟨afterAccess_of_refused s hp, rfl, fun hd => if_pos hd⟩
  case performed => exact code_responseTo_of_performed s (Access.performed_iff.mpr ⟨hw, hl, ho⟩)

end Sys2Proof.Machine

/-! ## The moves of the outside world -/

namespace Sys2Proof.Machine

variable {s : State}

theorem engineTurn_of_idle (hi : s.pending = .idle) : s.engineTurn = false := by
  simp [State.engineTurn, s.busy_eq_false_iff.mpr hi]

/-- The host waits only where its oldest move is a wait (30_encoding.md R63). -/
theorem outsideWaits_eq_false {m : Move} {rest : List Move} (hin : s.inputs = m :: rest) (hm : m ≠ .waitIdle) :
    s.outsideWaits = false := by
  cases m with
  | waitIdle => contradiction
  | access | reset => simp [State.outsideWaits, hin]

/-- The oldest move of the outside world is performed when it is not the engine's turn. -/
theorem step_of_move {m : Move} {rest : List Move} (ht : s.engineTurn = false) (hin : s.inputs = m :: rest) :
    step s = .next ((s.takeMove rest).perform m) := by
  rw [step_of_not_engineTurn ht]
  simp [outsideStep, hin]

theorem step_of_no_move (ht : s.engineTurn = false) (hin : s.inputs = []) : step s = .next s := by
  rw [step_of_not_engineTurn ht]
  simp [outsideStep, hin]

/-- Settles O7: under either premise it is not the engine's turn, so the step is the outside world's. -/
theorem outsideMoveIsPerformed : Obligations.OutsideMoveIsPerformed := by
  refine ⟨fun s m rest hin h => step_of_move ?_ hin, fun _ _ => rfl, fun _ => rfl,
    fun s hi hin => step_of_no_move (engineTurn_of_idle hi) hin⟩
  rcases h with hi | ⟨hd, hm⟩
  · exact engineTurn_of_idle hi
  · simp [State.engineTurn, hd, outsideWaits_eq_false hin hm]

end Sys2Proof.Machine

/-! ## The address map and its inverse -/

namespace Sys2Proof.Machine

open Sys2Proof.Claim

/-- Where a target stands in the window, the inverse of `targetOf` (10_state.md R15, 20_memory.md R47): nothing for
reserved offsets, and for words and bytes that CORE does not have. -/
def Target.place (p : Config.Params) : Target → Option Nat
  | .id       => some 0x000
  | .ctrl     => some 0x004
  | .cfg      => some 0x008
  | .cmd      => some 0x00C
  | .status   => some 0x010
  | .result   => some 0x014
  | .msgLen   => some 0x018
  | .adLen    => some 0x01C
  | .msgSize  => some 0x020
  | .adSize   => some 0x024
  | .key k    => if k < 8 then some (0x040 + 4 * k) else none
  | .blk k    => if k < 8 then some (0x060 + 4 * k) else none
  | .iv k     => if k < 8 then some (0x080 + 4 * k) else none
  | .tag k    => if k < 4 then some (0x0A0 + 4 * k) else none
  | .ad a     => if a < p.adBytes then some (0x2000 + a) else none
  | .msg a    => if a < p.msgBytes then some (0x8000 + a) else none
  | .reserved => none

section
variable {p : Config.Params} {t : Target} {o : Nat}

theorem place_controlTarget (p : Config.Params) (o : Nat) :
    controlTarget o = .reserved ∨ (controlTarget o).place p = some o := by
  unfold controlTarget
  split
  case h_11 => exact .inl rfl
  all_goals exact .inr rfl

/-- What stands at an aligned offset has its place there, if it is not reserved. -/
theorem place_targetOf (p : Config.Params) (ho : o % 4 = 0) :
    targetOf p o = .reserved ∨ (targetOf p o).place p = some o := by
  rcases targetOf_cases p o with
    ⟨-, ht⟩ | ⟨-, ht⟩ | ⟨h, ht⟩ | ⟨h, ht⟩ | ⟨h, ht⟩ | ⟨h, ht⟩ | ⟨h, ht⟩ | ⟨h, ht⟩ <;>
  rw [ht]
  · exact place_controlTarget p o
  · exact .inl rfl
  all_goals
    right
    simp only [Target.place]
    rw [if_pos (by omega), Option.some.injEq]
    omega

/-- The place of a target is where the address map has it. -/
theorem targetOf_of_place (h : t.place p = some o) : targetOf p o = t := by
  have hmsg : msgBase = 0x8000 := rfl
  have had : adBase = 0x2000 := rfl
  have hsize : p.adBytes ≤ 0x2000 := by simp only [Config.Params.adBytes]; omega
  cases t with
  | reserved => contradiction
  | key | blk | iv | tag | ad | msg =>
    simp only [Target.place, Option.ite_none_right_eq_some, Option.some.injEq] at h
    obtain ⟨hk, rfl⟩ := h
    simp only [targetOf]
    split_ifs <;> try omega
    simp [had, hmsg]
  | _ =>
    cases h
    rfl

theorem targetOf_of_reservedOffset (h : reservedOffset p o) : targetOf p o = .reserved := by
  have hmsg : p.msgBytes ≤ 0x8000 := by simp only [Config.Params.msgBytes]; omega
  have had : p.adBytes ≤ 0x2000 := by simp only [Config.Params.adBytes]; omega
  rcases targetOf_cases p o with
    ⟨hlt, ht⟩ | ⟨-, ht⟩ | ⟨hin, -⟩ | ⟨hin, -⟩ | ⟨hin, -⟩ | ⟨hin, -⟩ | ⟨hin, -⟩ | ⟨hin, -⟩
  · have control : ∀ o < 0x040, 0x028 ≤ o → controlTarget o = .reserved := by decide
    exact ht.trans (control o hlt (by omega))
  · exact ht
  all_goals omega

end

end Sys2Proof.Machine

/-! ## Byte lanes of words -/

namespace Sys2Proof.Machine

/-- Lane j of the word at a holds byte a + j (20_memory.md R45). -/
theorem laneOf_packWord_add (f : Nat → Byte) (a : Nat) {j : Nat} (hj : j < 4) :
    laneOf (packWord (f a) (f (a + 1)) (f (a + 2)) (f (a + 3))) j = f (a + j) := by
  obtain ⟨h0, h1, h2, h3⟩ := laneOf_packWord (f a) (f (a + 1)) (f (a + 2)) (f (a + 3))
  interval_cases j
  exacts [h0, h1, h2, h3]

theorem laneOf_wordOf {n : Nat} (reg : Vector Byte n) (k : Nat) {j : Nat} (hj : j < 4) :
    laneOf (wordOf reg k) j = byteOf reg (4 * k + j) := laneOf_packWord_add (byteOf reg) (4 * k) hj

theorem laneOf_readWord (m : Memory) (a : Nat) {j : Nat} (hj : j < 4) :
    laneOf (m.readWord a) j = m.read (a + j) := laneOf_packWord_add m.read a hj

/-- A word is made of its lanes: two words with the same lanes are equal. -/
theorem ext_laneOf {v v' : Word} (h : ∀ j < 4, laneOf v j = laneOf v' j) : v = v' := by
  rw [← packWord_laneOf v, ← packWord_laneOf v', h 0 (by omega), h 1 (by omega), h 2 (by omega), h 3 (by omega)]

/-- A read after a write to the same word of a register. -/
theorem wordOf_setWordOf_self {n : Nat} (reg : Vector Byte n) {k : Nat} (v : Word) (hk : 4 * k + 4 ≤ n) :
    wordOf (setWordOf reg k v) k = v := by
  refine ext_laneOf fun j hj => ?_
  rw [laneOf_wordOf _ _ hj, byteOf_setWordOf _ _ _ (by omega), if_pos (by omega)]
  congr 1
  omega

/-- A read after a write to another word of a register. -/
theorem wordOf_setWordOf_ne {n : Nat} (reg : Vector Byte n) {k k' : Nat} (v : Word) (h : k' ≠ k) :
    wordOf (setWordOf reg k v) k' = wordOf reg k' := by
  refine ext_laneOf fun j hj => ?_
  rw [laneOf_wordOf _ _ hj, laneOf_wordOf _ _ hj]
  by_cases hn : 4 * k' + j < n
  · rw [byteOf_setWordOf _ _ _ hn, if_neg (by omega)]
  · simp [byteOf, hn]

/-- A read after a write to the same word of the buffers. -/
theorem Memory.readWord_writeWord_self {m : Memory} (h : m.wf) (a : Nat) (v : Word) :
    (m.writeWord a v).readWord a = v := by
  refine ext_laneOf fun j hj => ?_
  rw [laneOf_readWord _ _ hj, Memory.writeWord, Memory.read_writeBytes_inside h hj]
  interval_cases j <;> rfl

/-- A read after a write to a word of the buffers that shares no byte with it. -/
theorem Memory.readWord_writeWord_disjoint (m : Memory) {a a' : Nat} (v : Word) (h : a' + 4 ≤ a ∨ a + 4 ≤ a') :
    (m.writeWord a v).readWord a' = m.readWord a' := by
  refine ext_laneOf fun j hj => ?_
  rw [laneOf_readWord _ _ hj, laneOf_readWord _ _ hj, Memory.writeWord]
  exact Memory.read_writeBytes_outside _ _ (by simp only [List.length_cons, List.length_nil]; omega)

end Sys2Proof.Machine

/-! ## Storing a word and reading it back -/

namespace Sys2Proof.Machine

open Sys2Proof.Claim

/-- The targets that hold what is written to them and show it (10_state.md R24, R25, R29 to R33). -/
def Target.isStorage : Target → Bool
  | .msgLen | .adLen | .blk _ | .iv _ | .tag _ | .ad _ | .msg _                             => true
  | .id | .ctrl | .cfg | .cmd | .status | .result | .msgSize | .adSize | .key _ | .reserved => false

theorem isStorage_controlTarget :
    ∀ o < 0x040, (controlTarget o).isStorage = true ↔ o = 0x018 ∨ o = 0x01C := by decide

/-- They stand at the storage offsets. -/
theorem isStorage_targetOf (p : Config.Params) (o : Nat) :
    (targetOf p o).isStorage = true ↔ storageOffset p o := by
  rcases targetOf_cases p o with
    ⟨hlt, ho⟩ | ⟨h, ho⟩ | ⟨h, ho⟩ | ⟨h, ho⟩ | ⟨h, ho⟩ | ⟨h, ho⟩ | ⟨h, ho⟩ | ⟨h, ho⟩ <;>
  rw [ho]
  · rw [isStorage_controlTarget o hlt]
    omega
  · exact iff_of_false Bool.false_ne_true (by omega)
  · exact iff_of_false Bool.false_ne_true (by omega)
  all_goals exact iff_of_true rfl (by omega)

section
variable {s : State} {t t' : Target} {o o' : Nat}

@[simp] theorem storeTarget_params (s : State) (v : Word) (t : Target) : (s.storeTarget v t).params = s.params := by
  cases t <;> rfl

theorem storeTarget_pending (s : State) (v : Word) (h : t.isStorage = true) :
    (s.storeTarget v t).pending = s.pending := by
  cases t with
  | cmd => contradiction
  | _ => rfl

/-- What is stored to a length, a register or a buffer is what it then reads as. -/
theorem valueOf_storeTarget_self (v : Word) (hm : s.mem.wf) (h : t.isStorage = true) (ht : t.place s.params = some o) :
    (s.storeTarget v t).valueOf t = v := by
  cases t with
  | msgLen | adLen => rfl
  | blk k | iv k | tag k =>
    simp only [Target.place, Option.ite_none_right_eq_some] at ht
    exact wordOf_setWordOf_self _ v (by omega)
  | ad a | msg a => exact Memory.readWord_writeWord_self hm _ v
  | _ => contradiction

/-- A word written to the buffers leaves what reads from other bytes than its own. -/
theorem valueOf_writeWord_disjoint (v : Word) (ht' : t'.place s.params = some o') (h : o' + 4 ≤ o ∨ o + 4 ≤ o') :
    State.valueOf { s with mem := s.mem.writeWord o v } t' = s.valueOf t' := by
  cases t' with
  | ad a | msg a =>
    simp only [Target.place, Option.ite_none_right_eq_some, Option.some.injEq] at ht'
    obtain ⟨-, rfl⟩ := ht'
    exact Memory.readWord_writeWord_disjoint _ v h
  | _ => rfl

/-- A store to one place leaves what every other place reads as. -/
theorem valueOf_storeTarget_of_ne (v : Word) (ho : o % 4 = 0) (ho' : o' % 4 = 0) (hne : o' ≠ o)
    (h : t.isStorage = true) (ht : t.place s.params = some o) (ht' : t'.place s.params = some o') :
    (s.storeTarget v t).valueOf t' = s.valueOf t' := by
  have htt : t' ≠ t := by
    rintro rfl
    exact hne (Option.some.inj (ht'.symm.trans ht))
  cases t with
  | msgLen =>
    cases t' with
    | msgLen => contradiction
    | _ => rfl
  | adLen =>
    cases t' with
    | adLen => contradiction
    | _ => rfl
  | blk k =>
    cases t' with
    | blk k' => exact wordOf_setWordOf_ne s.blk v (by simpa using htt)
    | _ => rfl
  | iv k =>
    cases t' with
    | iv k' => exact wordOf_setWordOf_ne s.iv v (by simpa using htt)
    | _ => rfl
  | tag k =>
    cases t' with
    | tag k' => exact wordOf_setWordOf_ne s.tag v (by simpa using htt)
    | _ => rfl
  | ad a | msg a =>
    simp only [Target.place, Option.ite_none_right_eq_some, Option.some.injEq] at ht
    obtain ⟨-, rfl⟩ := ht
    exact valueOf_writeWord_disjoint v ht' (by simp only [adBase, msgBase]; omega)
  | _ => contradiction

end

/-- Settles O15: the read and the write meet at the same target or at two targets with different places. -/
theorem writtenWordReadsBack : Obligations.WrittenWordReadsBack := by
  rintro s o o' v hi ⟨hwf, -⟩ ho ho' hs
  have hst := (isStorage_targetOf s.params o.toNat).mpr hs
  have ht : (targetOf s.params o.toNat).place s.params = some o.toNat :=
    (place_targetOf s.params ho).resolve_left fun hr => by simp [hr, Target.isStorage] at hst
  have hi' := (storeTarget_pending s v hst).trans hi
  rw [afterAccess_idle v hi ho rfl, responseTo_idle hi' ho rfl, responseTo_idle hi' ho' rfl, responseTo_idle hi ho' rfl,
    storeTarget_params]
  refine ⟨by rw [valueOf_storeTarget_self v hwf hst ht], fun hne => ?_⟩
  rcases place_targetOf s.params ho' with hr | ht'
  · rw [hr]
    rfl
  · rw [valueOf_storeTarget_of_ne v ho ho' (fun h => hne (BitVec.eq_of_toNat_eq h)) hst ht ht']

end Sys2Proof.Machine

/-! ## Registers and buffers, byte by byte -/

namespace Sys2Proof.Machine

open Sys2Proof.Claim

section
variable {s : State} {t : Target} {o : Nat}

/-- An idle CORE answers a read of a target's place with its value. -/
theorem responseTo_idle_of_place (hi : s.pending = .idle) (ho : o % 4 = 0) (hlt : o < 2 ^ 16)
    (ht : t.place s.params = some o) : s.responseTo (readAt (BitVec.ofNat 16 o)) = ⟨.okay, some (s.valueOf t)⟩ := by
  have h : (BitVec.ofNat 16 o).toNat = o := (BitVec.toNat_ofNat o 16).trans (Nat.mod_eq_of_lt hlt)
  exact responseTo_idle hi (by rwa [h]) (by rw [h, targetOf_of_place ht])

/-- An idle CORE takes a write to a target's place as a store to it. -/
theorem afterAccess_idle_of_place (v : Word) (hi : s.pending = .idle) (ho : o % 4 = 0) (hlt : o < 2 ^ 16)
    (ht : t.place s.params = some o) : s.afterAccess (writeAt (BitVec.ofNat 16 o) v) = s.storeTarget v t := by
  have h : (BitVec.ofNat 16 o).toNat = o := (BitVec.toNat_ofNat o 16).trans (Nat.mod_eq_of_lt hlt)
  exact afterAccess_idle v hi (by rwa [h]) (by rw [h, targetOf_of_place ht])

/-- The windows of AD and MSG show the buffer bytes at their own offsets (20_memory.md R47). -/
theorem valueOf_targetOf_buffer (s : State) (h : inAd s.params o ∨ inMsg s.params o) :
    s.valueOf (targetOf s.params o) = s.mem.readWord o := by
  rcases h with ⟨hlow, hhigh⟩ | ⟨hlow, hhigh⟩
  · obtain ⟨a, rfl⟩ := Nat.exists_eq_add_of_le hlow
    rw [targetOf_of_place (t := .ad a) (if_pos (by omega))]
    rfl
  · obtain ⟨a, rfl⟩ := Nat.exists_eq_add_of_le hlow
    rw [targetOf_of_place (t := .msg a) (if_pos (by omega))]
    rfl

end

/-- Settles O16: lane j of a word is byte 4 k + j of a register, and byte o + j of a buffer's window. -/
theorem bytesLieLittleEndianInWords : Obligations.BytesLieLittleEndianInWords := by
  intro s hi j hj
  refine ⟨fun k hk v => ?key, fun k hk => ⟨_, ?blk, laneOf_wordOf s.blk k hj⟩,
    fun k hk => ⟨_, ?iv, laneOf_wordOf s.iv k hj⟩, fun k hk => ⟨_, ?tag, laneOf_wordOf s.tag k hj⟩,
    fun o ho h => ⟨_, responseTo_idle hi ho rfl, ?buffers⟩⟩
  case key =>
    rw [afterAccess_idle_of_place (t := .key k) v hi (by omega) (by omega) (if_pos hk)]
    refine (byteOf_setWordOf s.key k v (by omega)).trans ?_
    rw [if_pos (by omega), Nat.mul_add_mod, Nat.mod_eq_of_lt hj]
    rfl
  case blk => exact responseTo_idle_of_place (t := .blk k) hi (by omega) (by omega) (if_pos hk)
  case iv => exact responseTo_idle_of_place (t := .iv k) hi (by omega) (by omega) (if_pos hk)
  case tag => exact responseTo_idle_of_place (t := .tag k) hi (by omega) (by omega) (if_pos hk)
  case buffers =>
    rw [valueOf_targetOf_buffer s h]
    exact laneOf_readWord s.mem o.toNat hj

end Sys2Proof.Machine

/-! ## Reserved offsets and reserved bits -/

namespace Sys2Proof.Machine

open Sys2Proof.Claim

/-- KEY is write-only: it reads 0, BUSY or not (10_state.md R28). -/
theorem readTarget_key (s : State) (k : Nat) : s.readTarget (.key k) = 0 := by
  simp [State.readTarget, State.valueOf]

theorem responseTo_writeAt (s : State) {o : BitVec 16} (v : Word) (ho : o.toNat % 4 = 0) :
    s.responseTo (writeAt o v) = ⟨.okay, none⟩ := by
  simp [State.responseTo, writeAt, Access.performed, ho]

/-! ### Bits that read 0 -/

/-- A field that is 0 has no bit set. -/
theorem getLsbD_of_extractLsb'_eq_zero {v : Word} {a n k : Nat} (h : v.extractLsb' a n = 0) (hak : a ≤ k)
    (hkn : k < a + n) : v.getLsbD k = false := by
  have hk : (v.extractLsb' a n).getLsbD (k - a) = false := by rw [h, BitVec.ofNat_eq_ofNat, BitVec.getLsbD_zero]
  rwa [BitVec.getLsbD_extractLsb', Nat.add_sub_cancel' hak, decide_eq_true (by omega), Bool.true_and] at hk

theorem State.ctrl_reserved (s : State) {k : Nat} (hk : 1 ≤ k) : s.ctrl.getLsbD k = false := by
  rw [State.ctrl, BitVec.getLsbD_append, if_neg (by omega), BitVec.ofNat_eq_ofNat, BitVec.getLsbD_zero]

theorem State.cfg_reserved (s : State) {k : Nat} (hk : 8 ≤ k) : s.cfg.getLsbD k = false := by
  rw [State.cfg, BitVec.getLsbD_append, if_neg (by omega), BitVec.getLsbD_append, if_neg (by omega),
    BitVec.ofNat_eq_ofNat, BitVec.getLsbD_zero]

theorem State.status_reserved_bits (s : State) {k : Nat} (hk : (5 ≤ k ∧ k ≤ 7) ∨ 12 ≤ k) :
    s.status.getLsbD k = false := by
  obtain ⟨hlow, hhigh⟩ := s.status_reserved
  rcases hk with ⟨h5, h7⟩ | h12
  · exact getLsbD_of_extractLsb'_eq_zero hlow h5 (by omega)
  · rcases Nat.lt_or_ge k 32 with h32 | h32
    · exact getLsbD_of_extractLsb'_eq_zero hhigh h12 h32
    · exact BitVec.getLsbD_of_ge _ _ h32

/-- RESULT reads 0 above its byte, whether it shows or reads 0 whole (10_state.md R23, R42). -/
theorem readTarget_result_reserved (s : State) {k : Nat} (hk : 8 ≤ k) :
    (s.readTarget .result).getLsbD k = false := by
  unfold State.readTarget
  split
  · exact BitVec.getLsbD_zero
  · rw [State.valueOf, BitVec.getLsbD_setWidth, BitVec.getLsbD_of_ge _ _ hk, Bool.and_false]

/-! ### Bits that writes do not reach -/

/-- Two words that a target stores alike are written alike, BUSY or not. -/
theorem afterAccess_writeAt_congr {s : State} {o : BitVec 16} {v v' : Word} (ho : o.toNat % 4 = 0)
    (h : s.storeTarget v (targetOf s.params o.toNat) = s.storeTarget v' (targetOf s.params o.toNat)) :
    s.afterAccess (writeAt o v) = s.afterAccess (writeAt o v') := by
  rw [afterAccess_writeAt s v ho, afterAccess_writeAt s v' ho, State.writeTarget, State.writeTarget, h]

/-- A field of the low byte depends on the low byte alone. -/
theorem extractLsb'_congr_of_low_byte {v v' : Word} {a n : Nat} (h : v.extractLsb' 0 8 = v'.extractLsb' 0 8)
    (ha : a + n ≤ 8) : v.extractLsb' a n = v'.extractLsb' a n := by
  rw [← BitVec.extractLsb'_extractLsb'_of_le ha, h, BitVec.extractLsb'_extractLsb'_of_le ha]

theorem State.writeCfg_congr (s : State) {v v' : Word} (h : v.extractLsb' 0 8 = v'.extractLsb' 0 8) :
    s.writeCfg v = s.writeCfg v' := by
  rw [State.writeCfg, State.writeCfg, extractLsb'_congr_of_low_byte h (by omega),
    extractLsb'_congr_of_low_byte h (by omega)]

theorem State.writeStatus_congr (s : State) {v v' : Word} (h1 : v.getLsbD 1 = v'.getLsbD 1)
    (h4 : v.getLsbD 4 = v'.getLsbD 4) : s.writeStatus v = s.writeStatus v' := by
  rw [State.writeStatus, State.writeStatus, h1, h4]

/-- Settles O14: reserved targets are neither hidden nor locked, and the reserved bits are no fields of the state. -/
theorem reservedReadsZeroIgnoresWrites : Obligations.ReservedReadsZeroIgnoresWrites := by
  refine ⟨fun s o v ho hr => ?offsets, fun s o ho hlow hhigh => ?key,
    fun s => ⟨fun _ => s.ctrl_reserved, fun _ => s.cfg_reserved, fun _ => s.status_reserved_bits⟩,
    fun s v v' => ⟨fun h => ?ctrl, fun h => ?cfg, fun h1 h4 => ?status⟩,
    fun s => ⟨_, responseTo_readAt s rfl, fun _ => readTarget_result_reserved s⟩⟩
  case offsets =>
    have ht := targetOf_of_reservedOffset hr
    exact ⟨responseTo_shown ho ht rfl, responseTo_writeAt s v ho, afterAccess_unlocked v ho ht rfl⟩
  case key =>
    have ht := (targetOf_eq_key_iff s.params o.toNat _).mpr ⟨⟨hlow, hhigh⟩, rfl⟩
    rw [responseTo_readAt s ho, ht, readTarget_key]
  case ctrl => exact afterAccess_writeAt_congr rfl (congrArg (fun b => { s with irqEn := b }) h)
  case cfg => exact afterAccess_writeAt_congr rfl (s.writeCfg_congr h)
  case status => exact afterAccess_writeAt_congr rfl (s.writeStatus_congr h1 h4)

end Sys2Proof.Machine

/-! ## Words and fields -/

namespace Sys2Proof

/-- The fields of a word made of fields are those fields (30_encoding.md R57). -/
@[simp] theorem fieldsOf_wordOfFields (c : Cmd32) : fieldsOf (wordOfFields c) = c := by
  obtain ⟨op, a, b, z⟩ := c
  simp only [fieldsOf, Cmd32.mk.injEq]
  refine ⟨?_, ?_, ?_, ?_⟩
  all_goals
    apply BitVec.eq_of_getLsbD_eq
    intro i hi
    simp only [wordOfFields, BitVec.getLsbD_extractLsb', BitVec.getLsbD_append]
    grind

theorem wordOfFields_inj {c d : Cmd32} : wordOfFields c = wordOfFields d ↔ c = d :=
  ⟨fun h => by simpa using congrArg fieldsOf h, congrArg wordOfFields⟩

/-- Masking a word masks each of its fields. -/
theorem wordOfFields_and (c d : Cmd32) :
    wordOfFields c &&& wordOfFields d = wordOfFields ⟨c.op &&& d.op, c.a &&& d.a, c.b &&& d.b, c.z &&& d.z⟩ := by
  apply BitVec.eq_of_getLsbD_eq
  intro i _
  simp only [wordOfFields, BitVec.getLsbD_and, BitVec.getLsbD_append]
  split_ifs <;> rfl

/-! ## Decoding and encoding are inverse -/

theorem decodeFields_encodeFields (i : Instr) : decodeFields (encodeFields i) = .ok i := by
  cases i <;> rfl

theorem decode_encode (i : Instr) : decode (encode i) = .ok i := by
  rw [decode, encode, fieldsOf_wordOfFields, decodeFields_encodeFields]

/-- The legal words are the words of the commands, each of one command (30_encoding.md R60). -/
theorem decode_eq_ok_iff {w : Word} {i : Instr} : decode w = .ok i ↔ encode i = w := by
  refine ⟨encode_of_decode, ?_⟩
  rintro rfl
  exact decode_encode i

/-- Settles O1: each command's fields decode to it, and packing the fields into a word loses none. -/
theorem decodeOfEncode : Obligations.DecodeOfEncode := fun i _ => decode_encode i

/-- Settles O2: the decoder accepts a field only when the encoder gives it back. -/
theorem encodeOfDecode : Obligations.EncodeOfDecode := fun _ _ => encode_of_decode

/-- Settles O5: a word decodes to the command whose encoding it is, and the encodings are evaluated. -/
theorem commandWordsOfTheMap : Obligations.CommandWordsOfTheMap := by
  simp only [Obligations.CommandWordsOfTheMap, decode_eq_ok_iff]
  decide

end Sys2Proof

/-! ## The opcode map -/

namespace Sys2Proof

open Sys2Proof.Claim

/-- The fields of the row's command with operands `a` and `b`: what the command does not use is zero
(30_encoding.md R59, R60). -/
def OpRow.fields (row : OpRow) (a b : Byte) : Cmd32 :=
  ⟨row.op, if row.usesA then a else 0, if row.usesB then b else 0, 0⟩

theorem OpRow.fields_eq_iff {row : OpRow} {c : Cmd32} :
    row.fields c.a c.b = c ↔
      row.op = c.op ∧ (row.usesA = true ∨ c.a = 0) ∧ (row.usesB = true ∨ c.b = 0) ∧ c.z = 0 := by
  obtain ⟨op, usesA, usesB⟩ := row
  obtain ⟨op', a, b, z⟩ := c
  cases usesA <;> cases usesB <;> simp [OpRow.fields, eq_comm (a := 0#8)]

/-- The commands of spec/opcode_table.json, in its order, have the fields that the rows of the opcode map say. -/
theorem encodeFields_tableCommands :
    tableCommands.map (fun cmd a b => encodeFields (cmd a b)) = opcodeMap.map OpRow.fields := rfl

theorem encodeFields_of_row {k : Nat} {row : OpRow} {cmd : Byte → Byte → Instr} (hrow : opcodeMap[k]? = some row)
    (hcmd : tableCommands[k]? = some cmd) (a b : Byte) : encodeFields (cmd a b) = row.fields a b := by
  have h : (fun a b => encodeFields (cmd a b)) = row.fields := by
    simpa [hrow, hcmd] using congrArg (·[k]?) encodeFields_tableCommands
  exact congrFun₂ h a b

/-- A word with the fields of a row decodes to the row's command. -/
theorem decode_of_row {k : Nat} {row : OpRow} {cmd : Byte → Byte → Instr} {w : Word} (hrow : opcodeMap[k]? = some row)
    (hcmd : tableCommands[k]? = some cmd) (h : row.fields (fieldsOf w).a (fieldsOf w).b = fieldsOf w) :
    decode w = .ok (cmd (fieldsOf w).a (fieldsOf w).b) := by
  rw [decode_eq_ok_iff, encode, encodeFields_of_row hrow hcmd, h, wordOfFields_fieldsOf]

theorem nodup_opcodes : (opcodeMap.map OpRow.op).Nodup := by decide

/-- Two rows of the opcode map with one OP stand at one place. -/
theorem opcodeMap_index_unique {k k' : Nat} {row row' : OpRow} (h : opcodeMap[k]? = some row)
    (h' : opcodeMap[k']? = some row') (hop : row.op = row'.op) : k = k' := by
  have hk : k < (opcodeMap.map OpRow.op).length := by
    rw [List.length_map]
    exact (List.getElem?_eq_some_iff.mp h).1
  refine (List.getElem?_inj hk nodup_opcodes).mp ?_
  simp [h, h', hop]

/-! ### Legal words -/

/-- Fields are legal when they are the fields of a row of the opcode map with their own A and B. -/
theorem Cmd32.wellFormed_iff {c : Cmd32} :
    c.wellFormed = true ↔ ∃ row ∈ opcodeMap, row.fields c.a c.b = c := by
  simp only [Cmd32.wellFormed, Cmd32.opAssigned, Cmd32.unusedZero, OpRow.fields_eq_iff, Bool.and_eq_true,
    Bool.or_eq_true, List.any_eq_true, List.all_eq_true, beq_iff_eq, bne_iff_ne]
  constructor
  · rintro ⟨⟨row, hrow, hop⟩, hz, hall⟩
    obtain ⟨ha, hb⟩ := (hall row hrow).resolve_left (not_not_intro hop)
    exact ⟨row, hrow, hop, ha, hb, hz⟩
  · rintro ⟨row, hrow, hop, ha, hb, hz⟩
    refine ⟨⟨row, hrow, hop⟩, hz, fun row' hrow' => ?_⟩
    by_cases hop' : row'.op = c.op
    · have hsame : row' = row := List.inj_on_of_nodup_map nodup_opcodes hrow' hrow (hop'.trans hop.symm)
      exact .inr (hsame ▸ ⟨ha, hb⟩)
    · exact .inl hop'

/-- The per-command statements of `Laws.EncodingIsLegal` as one. -/
theorem wellFormed_encodeFields (i : Instr) : (encodeFields i).wellFormed = true := by
  cases i <;> rfl

/-- The decoder accepts exactly the words that are legal by the opcode map (30_encoding.md R60). -/
theorem wellFormed_fieldsOf_iff {w : Word} : (fieldsOf w).wellFormed = true ↔ ∃ i, decode w = .ok i := by
  constructor
  · intro h
    obtain ⟨row, hrow, hfields⟩ := Cmd32.wellFormed_iff.mp h
    obtain ⟨k, hk, hget⟩ := List.mem_iff_getElem.mp hrow
    have hcmd : tableCommands[k]? = some (tableCommands[k]'hk) := List.getElem?_eq_getElem (l := tableCommands) hk
    exact ⟨_, decode_of_row (List.getElem?_eq_some_iff.mpr ⟨hk, hget⟩) hcmd hfields⟩
  · rintro ⟨i, h⟩
    rw [← encodeFields_of_decodeFields h]
    exact wellFormed_encodeFields i

theorem decode_error_of_illegal {w : Word} (h : (fieldsOf w).wellFormed = false) : ∃ e, decode w = .error e := by
  cases hd : decode w with
  | error e => exact ⟨e, rfl⟩
  | ok i => simp [wellFormed_fieldsOf_iff.mpr ⟨i, hd⟩] at h

/-! ### The mask and match columns -/

/-- The mask and match columns that a row of the opcode map stands for: every field that the command does not use and OP
must match (30_encoding.md R61). -/
def OpRow.tableRow (row : OpRow) : TableRow :=
  { mask  := wordOfFields ⟨0xFF, if row.usesA then 0 else 0xFF, if row.usesB then 0 else 0xFF, 0xFF⟩
    value := wordOfFields ⟨row.op, 0, 0, 0⟩ }

theorem tableRows_eq : tableRows = opcodeMap.map OpRow.tableRow := by decide

theorem OpRow.tableRow_matches_iff {row : OpRow} {w : Word} :
    row.tableRow.matches w = true ↔ row.fields (fieldsOf w).a (fieldsOf w).b = fieldsOf w := by
  have hones : ∀ x : Byte, x &&& 255#8 = x := fun _ => BitVec.and_allOnes
  rw [OpRow.fields_eq_iff, TableRow.matches, beq_iff_eq]
  conv_lhs => rw [← wordOfFields_fieldsOf w]
  obtain ⟨op, usesA, usesB⟩ := row
  cases usesA <;> cases usesB <;>
    simp [OpRow.tableRow, wordOfFields_and, wordOfFields_inj, hones, eq_comm (b := op)]

/-- Settles O3: row `k` of the table and row `k` of the opcode map accept the same words, and no two rows share OP. -/
theorem decodeFollowsOpcodeTable : Obligations.DecodeFollowsOpcodeTable := by
  intro w
  rw [tableRows_eq]
  constructor
  · intro k _ cmd hk hcmd hmatch
    rw [List.getElem?_map, Option.map_eq_some_iff] at hk
    obtain ⟨row, hrow, rfl⟩ := hk
    have hfields := OpRow.tableRow_matches_iff.mp hmatch
    refine ⟨decode_of_row hrow hcmd hfields, fun k' _ hk' hmatch' => ?_⟩
    rw [List.getElem?_map, Option.map_eq_some_iff] at hk'
    obtain ⟨row', hrow', rfl⟩ := hk'
    have hop := (OpRow.fields_eq_iff.mp hfields).1
    have hop' := (OpRow.fields_eq_iff.mp (OpRow.tableRow_matches_iff.mp hmatch')).1
    exact opcodeMap_index_unique hrow' hrow (hop'.trans hop.symm)
  · intro hnone
    refine decode_error_of_illegal (Bool.eq_false_iff.mpr fun hlegal => ?_)
    obtain ⟨row, hrow, hfields⟩ := Cmd32.wellFormed_iff.mp hlegal
    have hmatch := OpRow.tableRow_matches_iff.mpr hfields
    simp [hnone _ (List.mem_map_of_mem hrow)] at hmatch

end Sys2Proof

/-! ## The completion of a command word -/

namespace Sys2Proof.Machine

variable {s : State} {w : Word}

theorem engineStep_of_decode_ok {i : Instr} (hp : s.pending = .command w) (h : decode w = .ok i) :
    engineStep s = exec i s := by
  simp [engineStep, hp, completeCommand, h]

theorem engineStep_of_decode_error {e : DecodeError} (hp : s.pending = .command w) (h : decode w = .error e) :
    engineStep s = .next (s.fail .illegalCommand) := by
  simp [engineStep, hp, completeCommand, h]

/-- Settles O4: the decoder accepts the legal words alone, and the engine's completion follows the decoder. -/
theorem illegalWordsEndIllegal : Obligations.IllegalWordsEndIllegal := by
  refine fun s w hp => ⟨fun hillegal => ?_, fun hlegal => ?_⟩
  · obtain ⟨e, he⟩ := decode_error_of_illegal hillegal
    exact engineStep_of_decode_error hp he
  · obtain ⟨i, hi⟩ := wellFormed_fieldsOf_iff.mp hlegal
    exact ⟨i, hi, engineStep_of_decode_ok hp hi⟩

end Sys2Proof.Machine

/-! ## The commands that only complete or clear -/

namespace Sys2Proof.Machine

/-- Settles O25: NOP has no check, and its pseudocode leaves the state to the completion. -/
theorem nopOnlyCompletes : Obligations.NopOnlyCompletes := fun _ => exec_of_passes rfl

theorem byteOf_replicate_zero (n j : Nat) : byteOf (Vector.replicate n 0) j = 0 := by
  by_cases hj : j < n <;> simp [byteOf, hj]

theorem scheduleWord_replicate_zero (i : Nat) :
    scheduleWord (Vector.replicate 120 ⟨0, 0, 0, 0⟩) i = ⟨0, 0, 0, 0⟩ := by
  by_cases hi : i < 120 <;> simp [scheduleWord, hi]

/-- ZEROIZE has no check: it always completes with success (40_control.md R70). -/
theorem exec_zeroize (s : State) : exec .zeroize s = .next (s.zeroized.complete .noError) := exec_of_passes rfl

/-- Settles O26: the registers, the schedule and the memory that ZEROIZE leaves hold zeros alone. -/
theorem zeroizeClears : Obligations.ZeroizeClears := by
  refine fun s => ⟨_, exec_zeroize s, ?key, ?blk, ?iv, ?tag, ?schedule, fun a => ?buffers,
    rfl, rfl, rfl, rfl, rfl, rfl, rfl⟩
  case key | blk | iv => exact byteOf_replicate_zero 32
  case tag => exact byteOf_replicate_zero 16
  case schedule => exact scheduleWord_replicate_zero
  case buffers => rfl

end Sys2Proof.Machine

/-! ## The engine's turn -/

namespace Sys2Proof.Machine

open Sys2Proof.Claim

/-- With a command word pending and the engine next, the step is the engine's. -/
theorem step_of_engineNext {s : State} {w : Word} (hp : s.pending = .command w) (hn : engineNext s) :
    step s = engineStep s :=
  step_of_engineTurn (engineTurn_of (by simp [hp]) hn)

/-- Settles O6: the step is the engine's, and the engine's completion follows the decoder. -/
theorem pendingCommandIsCompleted : Obligations.PendingCommandIsCompleted := by
  intro s w hp hn
  rw [step_of_engineNext hp hn]
  exact ⟨fun i hi => engineStep_of_decode_ok hp hi, fun e he => engineStep_of_decode_error hp he⟩

end Sys2Proof.Machine

/-! ## While something is pending -/

namespace Sys2Proof.Machine

open Sys2Proof.Claim

/-- What BUSY = 1 does not lock stores to CTRL.IRQ_EN, DONE and OVR alone (10_state.md R42 (c), (e)). -/
theorem storeTarget_frame_of_unlocked (s : State) (v : Word) {t : Target} (h : t.lockedWhileBusy = false) :
    s.storeTarget v t = { s with
      irqEn := (s.storeTarget v t).irqEn, done := (s.storeTarget v t).done, ovr := (s.storeTarget v t).ovr } := by
  cases t with
  | id | ctrl | status | result | msgSize | adSize | reserved => rfl
  | _ => contradiction

section
variable {s : State}

/-- While BUSY = 1 an access changes at most CTRL.IRQ_EN, DONE and OVR (10_state.md R42). -/
theorem afterAccess_frame_of_busy (hb : s.busy = true) (a : Access) :
    s.afterAccess a = { s with
      irqEn := (s.afterAccess a).irqEn, done := (s.afterAccess a).done, ovr := (s.afterAccess a).ovr } := by
  rcases State.afterAccess_cases a s with h | ⟨v, -, -, -, -, h⟩ | ⟨v, -, -, hl, h⟩ <;> rw [h]
  · rfl
  · exact storeTarget_frame_of_unlocked s v (hl hb)

/-- While BUSY = 1 a move other than reset changes at most CTRL.IRQ_EN, DONE, OVR and the responses
(40_control.md R66). -/
theorem perform_frame_of_busy {m : Move} (hb : s.busy = true) (hm : m ≠ .reset) :
    s.perform m = { s with
      irqEn := (s.perform m).irqEn, done := (s.perform m).done, ovr := (s.perform m).ovr,
      responses := (s.perform m).responses } := by
  cases m with
  | access a =>
    exact congrArg (fun t : State => { t with responses := s.responses ++ [s.responseTo a] })
      (afterAccess_frame_of_busy hb a)
  | waitIdle => rfl
  | reset => contradiction

/-- A write to CMD while BUSY = 0 is the acceptance of its word (40_control.md R64). -/
theorem afterAccess_cmd_of_idle (v : Word) (hi : s.pending = .idle) :
    s.afterAccess (writeAt 0x00C v) = s.accept v :=
  afterAccess_idle (t := .cmd) v hi rfl rfl

/-- A write to CMD while BUSY = 1 sets OVR alone (40_control.md R64). -/
theorem afterAccess_cmd_of_busy (v : Word) (hb : s.busy = true) :
    s.afterAccess (writeAt 0x00C v) = s.setOvr :=
  (afterAccess_writeAt s v rfl).trans (writeTarget_of_locked (t := .cmd) v hb rfl)

end

/-- Settles O11: CTRL and STATUS are the only targets that a write reaches while BUSY = 1. -/
theorem commandInputsAreFrozen : Obligations.CommandInputsAreFrozen := fun _ _ hb hm =>
  ⟨_, rfl, perform_frame_of_busy hb hm⟩

/-- Settles O10: CMD is locked while BUSY = 1, an idle CORE accepts the word, and PENDING is in the frame of every move
but reset. -/
theorem cmdWriteIsAccepted : Obligations.CmdWriteIsAccepted := by
  refine ⟨fun s v hi => ⟨s.accept v, afterAccess_cmd_of_idle v hi, rfl⟩,
    fun s v hp => afterAccess_cmd_of_busy v (s.busy_eq_true_iff.mpr hp), fun s m hp hm => ?_⟩
  rw [perform_frame_of_busy (s.busy_eq_true_iff.mpr hp) hm]

end Sys2Proof.Machine

/-! ## Multiplication in GF(2^8) -/

namespace Sys2Proof.Machine

theorem xtime_xor (a b : Byte) : xtime (a ^^^ b) = xtime a ^^^ xtime b := by
  have hreduce : (if (a ^^^ b).getLsbD 7 then 0x1B else 0 : Byte) =
      (if a.getLsbD 7 then 0x1B else 0) ^^^ (if b.getLsbD 7 then 0x1B else 0) := by
    rw [BitVec.getLsbD_xor]
    cases a.getLsbD 7 <;> cases b.getLsbD 7 <;> rfl
  simp only [xtime, hreduce, BitVec.shiftLeft_xor_distrib]
  ac_rfl

/-! ### The loop of 41_gf_tables.md R73 -/

section
variable (y : Byte) (n k : Nat)

/-- What holds of the first operand and of the sum so far, and survives XOR and xtime, holds of the product. -/
theorem gfMulLoop_induction {P : Byte → Prop} (hxor : ∀ a b, P a → P b → P (a ^^^ b))
    (hxtime : ∀ a, P a → P (xtime a)) {a r : Byte} (ha : P a) (hr : P r) : P (gfMulLoop y n k a r) := by
  induction n generalizing k a r with
  | zero => exact hr
  | succ n ih =>
    refine ih (k + 1) (hxtime a ha) ?_
    split
    · exact hxor r a hr ha
    · exact hr

theorem gfMulLoop_xor (a b r s : Byte) :
    gfMulLoop y n k (a ^^^ b) (r ^^^ s) = gfMulLoop y n k a r ^^^ gfMulLoop y n k b s := by
  induction n generalizing k a b r s with
  | zero => rfl
  | succ n ih =>
    simp only [gfMulLoop, xtime_xor, ← ih]
    split
    · congr 1; ac_rfl
    · rfl

theorem gfMulLoop_xtime (a r : Byte) : gfMulLoop y n k (xtime a) (xtime r) = xtime (gfMulLoop y n k a r) := by
  induction n generalizing k a r with
  | zero => rfl
  | succ n ih => simp only [gfMulLoop, ← ih, apply_ite xtime, xtime_xor]

end

/-! ### Multiplication is linear in its first operand -/

theorem gfMul_xor_left (a b y : Byte) : gfMul (a ^^^ b) y = gfMul a y ^^^ gfMul b y := gfMulLoop_xor y 8 0 a b 0 0

theorem gfMul_xtime_left (x y : Byte) : gfMul (xtime x) y = xtime (gfMul x y) := gfMulLoop_xtime y 8 0 x 0

theorem gfMul_one_left (y : Byte) : gfMul 1 y = y := by
  revert y
  decide +kernel

theorem gfMul_zero_left (y : Byte) : gfMul 0 y = 0 := by simpa using gfMul_xor_left 0 0 y

/-- Every byte is a sum of powers of x, since `gfMul 1 y` gives y back as such a sum (41_gf_tables.md R71). -/
theorem byte_induction {P : Byte → Prop} (hone : P 1) (hxor : ∀ a b, P a → P b → P (a ^^^ b))
    (hxtime : ∀ a, P a → P (xtime a)) (y : Byte) : P y := by
  have hzero : P 0 := hxor 1 1 hone hone
  exact gfMul_one_left y ▸ gfMulLoop_induction y 8 0 hxor hxtime hone hzero

/-- Multiplication is the one map that is additive, commutes with xtime and takes a given value at 1. -/
theorem eq_gfMul_of_linear {f : Byte → Byte} (hxor : ∀ a b, f (a ^^^ b) = f a ^^^ f b)
    (hxtime : ∀ a, f (xtime a) = xtime (f a)) (x : Byte) : f x = gfMul x (f 1) := by
  induction x using byte_induction with
  | hone => rw [gfMul_one_left]
  | hxor a b ha hb => rw [hxor, gfMul_xor_left, ha, hb]
  | hxtime a ha => rw [hxtime, gfMul_xtime_left, ha]

/-! ### Its laws in both operands -/

theorem gfMul_one_right (x : Byte) : gfMul x 1 = x :=
  (eq_gfMul_of_linear (f := id) (fun _ _ => rfl) (fun _ => rfl) x).symm

theorem gfMul_xor_right (x y z : Byte) : gfMul x (y ^^^ z) = gfMul x y ^^^ gfMul x z := by
  have h := eq_gfMul_of_linear (f := fun a => gfMul a y ^^^ gfMul a z)
    (fun a b => by simp only [gfMul_xor_left]; ac_rfl) (fun a => by simp only [gfMul_xtime_left, xtime_xor]) x
  simpa only [gfMul_one_left] using h.symm

theorem gfMul_xtime_right (x y : Byte) : gfMul x (xtime y) = xtime (gfMul x y) := by
  have h := eq_gfMul_of_linear (f := fun a => xtime (gfMul a y))
    (fun a b => by simp only [gfMul_xor_left, xtime_xor]) (fun a => by simp only [gfMul_xtime_left]) x
  simpa only [gfMul_one_left] using h.symm

theorem gfMul_comm (x y : Byte) : gfMul x y = gfMul y x := by
  have h := eq_gfMul_of_linear (gfMul_xor_right y) (gfMul_xtime_right y) x
  rw [h, gfMul_one_right]

theorem gfMul_assoc (x y z : Byte) : gfMul (gfMul x y) z = gfMul x (gfMul y z) := by
  have h := eq_gfMul_of_linear (f := fun a => gfMul (gfMul a y) z)
    (fun a b => by simp only [gfMul_xor_left]) (fun a => by simp only [gfMul_xtime_left]) x
  simpa only [gfMul_one_left] using h

theorem gfMul_two (x : Byte) : gfMul 2 x = xtime x := by
  have htwo : (2 : Byte) = xtime 1 := rfl
  rw [htwo, gfMul_xtime_left, gfMul_one_left]

/-- Settles O29: the loop is linear in its first operand, and a linear map is multiplication by its value at 1, which
carries linearity over to the second operand and gives symmetry. -/
theorem multiplicationIsPolynomial : Obligations.MultiplicationIsPolynomial := fun x y z =>
  ⟨rfl, gfMul_comm x y, gfMul_xor_right x y z, gfMul_one_left x, gfMul_xtime_right x y, gfMul_two x⟩

end Sys2Proof.Machine

/-! ## The byte commands -/

namespace Sys2Proof.Machine

/-- Settles O27: no byte command has a check, and its pseudocode stores its table's byte. -/
theorem byteCommandsWriteResult : Obligations.ByteCommandsWriteResult := fun _ _ _ =>
  ⟨exec_of_passes rfl, exec_of_passes rfl, exec_of_passes rfl, exec_of_passes rfl⟩

end Sys2Proof.Machine

/-! ## Inverses in GF(2^8) and the S-boxes -/

namespace Sys2Proof.Machine

/-! ### The inverse (41_gf_tables.md R74) -/

theorem mem_range_map_ofNat (y : Byte) : y ∈ (List.range 256).map (BitVec.ofNat 8) :=
  List.mem_map.mpr ⟨y.toNat, List.mem_range.mpr y.isLt, by simp⟩

theorem gfInv_zero : gfInv 0 = 0 := by
  rw [gfInv, List.find?_eq_none.mpr fun y _ => by rw [gfMul_zero_left]; decide]
  rfl

/-- A byte that has an inverse has at most one, so the search ends at it. -/
theorem gfInv_eq_of_gfMul_eq_one {x y : Byte} (h : gfMul x y = 1) : gfInv x = y := by
  have hunique : ∀ z, gfMul x z = 1 → z = y := fun z hz =>
    calc z
      _ = gfMul (gfMul x y) z := by rw [h, gfMul_one_left]
      _ = gfMul y (gfMul x z) := by rw [gfMul_comm x y, gfMul_assoc]
      _ = y := by rw [hz, gfMul_one_right]
  unfold gfInv
  cases hfind : ((List.range 256).map (BitVec.ofNat 8)).find? fun z => gfMul x z == 1 with
  | none => simpa [h] using List.find?_eq_none.mp hfind y (mem_range_map_ofNat y)
  | some z => exact hunique z (by simpa using List.find?_some hfind)

/-! ### The S-box tables (41_gf_tables.md R76, R77) -/

/-- The map that undoes `gfAffine`: it recovers inv[x] from the tabulated sbox[x]. -/
def gfAffineInv (b : Byte) : Byte := gfRot b 1 ^^^ gfRot b 3 ^^^ gfRot b 6 ^^^ 0x05

theorem gfAffine_gfAffineInv (b : Byte) : gfAffine (gfAffineInv b) = b := by
  revert b
  decide +kernel

theorem sboxOf_zero : sboxOf 0 = 0x63 := rfl

theorem gfAffineInv_sboxOf_zero : gfAffineInv (sboxOf 0) = 0 := rfl

theorem gfMul_gfAffineInv_sboxOf {x : Byte} (hx : x ≠ 0) : gfMul x (gfAffineInv (sboxOf x)) = 1 := by
  revert x
  decide +kernel

theorem gfInv_eq_gfAffineInv_sboxOf (x : Byte) : gfInv x = gfAffineInv (sboxOf x) := by
  by_cases hx : x = 0
  · rw [hx, gfInv_zero, gfAffineInv_sboxOf_zero]
  · exact gfInv_eq_of_gfMul_eq_one (gfMul_gfAffineInv_sboxOf hx)

theorem gfMul_gfInv {x : Byte} (hx : x ≠ 0) : gfMul x (gfInv x) = 1 := by
  rw [gfInv_eq_gfAffineInv_sboxOf, gfMul_gfAffineInv_sboxOf hx]

theorem sboxOf_eq_gfAffine_gfInv (x : Byte) : sboxOf x = gfAffine (gfInv x) := by
  rw [gfInv_eq_gfAffineInv_sboxOf, gfAffine_gfAffineInv]

@[simp] theorem invSboxOf_sboxOf (x : Byte) : invSboxOf (sboxOf x) = x := by
  revert x
  decide +kernel

@[simp] theorem sboxOf_invSboxOf (x : Byte) : sboxOf (invSboxOf x) = x := by
  revert x
  decide +kernel

theorem sboxOf_ne_self (x : Byte) : sboxOf x ≠ x := by
  revert x
  decide +kernel

/-- Settles O28: the affine map is undone on the tabulated S-box, which gives each byte's one inverse. -/
theorem tableLaws : Obligations.TableLaws :=
  ⟨sboxOf_eq_gfAffine_gfInv, fun x => ⟨invSboxOf_sboxOf x, sboxOf_invSboxOf x, sboxOf_ne_self x⟩,
    fun _ hx => gfMul_gfInv hx, gfInv_zero, sboxOf_zero⟩

end Sys2Proof.Machine

/-! ## The words of the key schedule -/

namespace Sys2Proof.Machine

open Sys2Proof.Claim

variable {nb nk : Nat} {ws : List SchedWord}

/-! ### The round constant (42_key_schedule.md R86) -/

theorem rcon_add_two (k : Nat) : rcon (k + 2) = xtime (rcon (k + 1)) := Function.iterate_succ_apply' xtime k 0x01

/-- The constant held at index j + 1 was doubled at the j / Nk multiples of Nk since the first word made. -/
theorem nextRcon_rcon (nk j : Nat) : nextRcon nk (j + 1) (rcon (j / nk + 1)) = rcon ((j + 1) / nk + 1) := by
  rw [nextRcon, Nat.succ_div]
  by_cases h : (j + 1) % nk = 0
  · rw [if_pos h, if_pos (Nat.dvd_of_mod_eq_zero h), rcon_add_two]
  · rw [if_neg h, if_neg (mt Nat.mod_eq_zero_of_dvd h), Nat.add_zero]

/-- Where the constant is used, at a multiple of Nk, the one held is rc_(i/Nk). -/
theorem scheduleTemp_rcon (nk j : Nat) (prev : SchedWord) :
    scheduleTemp nk (j + 1) (rcon (j / nk + 1)) prev = scheduleTemp nk (j + 1) (rcon ((j + 1) / nk)) prev := by
  by_cases h : (j + 1) % nk = 0
  · rw [Nat.succ_div, if_pos (Nat.dvd_of_mod_eq_zero h)]
  · simp only [scheduleTemp, if_neg h]

/-! ### The loop (42_key_schedule.md R87) -/

/-- Every word from index Nk on is made of the word Nk places back and of the word before it. -/
def FollowsRecurrence (nk : Nat) (ws : List SchedWord) : Prop :=
  ∀ i, nk ≤ i → i < ws.length → ∃ before prev, ws[i - nk]? = some before ∧ ws[i - 1]? = some prev ∧
    ws[i]? = some (xorWord before (scheduleTemp nk i (rcon (i / nk)) prev))

theorem followsRecurrence_of_length_le (h : ws.length ≤ nk) : FollowsRecurrence nk ws :=
  fun _ hi hlt => absurd (hi.trans_lt hlt) h.not_gt

/-- The next word of the loop keeps the recurrence. -/
theorem FollowsRecurrence.append_next (h : FollowsRecurrence nk ws) (hpos : 0 < nk) (hlen : nk ≤ ws.length) :
    FollowsRecurrence nk (ws ++ [xorWord (ws.getD (ws.length - nk) ⟨0, 0, 0, 0⟩)
      (scheduleTemp nk ws.length (rcon (ws.length / nk)) (ws.getD (ws.length - 1) ⟨0, 0, 0, 0⟩))]) := by
  intro i hi hlt
  rw [List.length_append, List.length_singleton, Nat.lt_succ_iff] at hlt
  rw [List.getElem?_append_left (show i - nk < ws.length by omega),
    List.getElem?_append_left (show i - 1 < ws.length by omega)]
  rcases hlt.lt_or_eq with hold | rfl
  · rw [List.getElem?_append_left hold]
    exact h i hi hold
  · have hword {k : Nat} (hk : k < ws.length) : ws[k]? = some (ws.getD k ⟨0, 0, 0, 0⟩) := by simp [hk]
    exact ⟨_, _, hword (by omega), hword (by omega), List.getElem?_concat_length⟩

/-- The loop keeps the recurrence when it starts with the round constant of its first index. -/
theorem followsRecurrence_expandLoop (hpos : 0 < nk) (n : Nat) (h : FollowsRecurrence nk ws) (hlen : nk ≤ ws.length) :
    FollowsRecurrence nk (expandLoop nk n (rcon ((ws.length - 1) / nk + 1)) ws) := by
  induction n generalizing ws with
  | zero => exact h
  | succ n ih =>
    obtain ⟨j, hj⟩ : ∃ j, ws.length = j + 1 := ⟨ws.length - 1, by omega⟩
    have hnext := ih (h.append_next hpos hlen) (by rw [List.length_append]; omega)
    simpa [expandLoop, hj, nextRcon_rcon, scheduleTemp_rcon] using hnext

/-- The loop only appends. -/
theorem expandLoop_eq_append (nk n : Nat) (rc : Byte) (ws : List SchedWord) :
    ∃ rest, expandLoop nk n rc ws = ws ++ rest := by
  induction n generalizing rc ws with
  | zero => exact ⟨[], ws.append_nil.symm⟩
  | succ n ih =>
    obtain ⟨rest, hrest⟩ := ih _ _
    exact ⟨_, hrest.trans (List.append_assoc _ _ _)⟩

/-! ### expand_key -/

theorem expandKey_getElem?_of_lt {key : Bytes} {i : Nat} (hi : i < key.length / 4) (nb : Nat) :
    (expandKey key nb)[i]? = some (keyWord key i) := by
  obtain ⟨rest, hrest⟩ := expandLoop_eq_append (key.length / 4)
    (scheduleLength nb (key.length / 4) - key.length / 4) 0x01 ((List.range (key.length / 4)).map (keyWord key))
  rw [expandKey, hrest, List.getElem?_append_left (by simpa using hi)]
  simp [hi]

theorem followsRecurrence_expandKey {key : Bytes} (hpos : 0 < key.length / 4) (nb : Nat) :
    FollowsRecurrence (key.length / 4) (expandKey key nb) := by
  have hfirst : FollowsRecurrence (key.length / 4) ((List.range (key.length / 4)).map (keyWord key)) :=
    followsRecurrence_of_length_le (by simp)
  have hrc : rcon ((key.length / 4 - 1) / (key.length / 4) + 1) = 0x01 := by
    rw [Nat.div_eq_of_lt (Nat.sub_one_lt_of_lt hpos)]
    rfl
  simpa [expandKey, hrc] using followsRecurrence_expandLoop hpos
    (scheduleLength nb (key.length / 4) - key.length / 4) hfirst (by simp)

/-- For a legal Nk the second S-box step, at Nk > 6, is Nk = 8's own. -/
theorem scheduleTemp_of_legal (hnk : nk ∈ [4, 6, 8]) (i : Nat) (rc : Byte) (prev : SchedWord) :
    scheduleTemp nk i rc prev =
      if i % nk = 0 then xorRcon (subWord (rotWord prev)) rc
      else if nk = 8 ∧ i % nk = 4 then subWord prev
      else prev := by
  have h8 : 6 < nk ↔ nk = 8 := by
    simp only [List.mem_cons, List.not_mem_nil, or_false] at hnk
    omega
  simp only [scheduleTemp, h8]

/-- Settles O31: the loop starts from the key's words, appends only, and every word it appends keeps the recurrence. -/
theorem expandKeyRecurrence : Obligations.ExpandKeyRecurrence := by
  refine ⟨fun _ _ _ => ⟨rfl, rfl, rfl, rfl, rfl, rfl, rfl, rfl⟩, fun key nb nk hnk hnb hlen => ?_⟩
  have hkey : key.length / 4 = nk := by omega
  have hpos : 0 < nb ∧ 0 < nk := by
    simp only [List.mem_cons, List.not_mem_nil, or_false] at hnk hnb
    omega
  have hwords : (expandKey key nb).length = nb * (rounds nb nk + 1) := hkey ▸ length_expandKey key hpos.1
  refine ⟨hwords, fun i hi => expandKey_getElem?_of_lt (hkey.symm ▸ hi) nb, fun i hi hlt => ?_⟩
  have hrec := followsRecurrence_expandKey (hkey.symm ▸ hpos.2) nb i (hkey.symm ▸ hi) (hwords.symm ▸ hlt)
  simpa only [hkey, scheduleTemp_of_legal hnk] using hrec

end Sys2Proof.Machine

/-! ## KEYEXP -/

namespace Sys2Proof.Machine

open Sys2Proof.Claim

theorem regBytes_eq_firstBytes {m n : Nat} (reg : Vector Byte m) (h : n ≤ m) : regBytes reg n = firstBytes reg n := by
  refine List.ext_getElem (by simp [regBytes, h]) fun j hj _ => ?_
  have hjn : j < n := by simpa [regBytes] using hj
  simp [regBytes, firstBytes, byteOf, hjn.trans_le h]

/-- W holds the longest schedule (42_key_schedule.md R84). -/
theorem scheduleLength_le {nb nk : Nat} (hnb : nb ≤ 8) (hnk : nk ≤ 8) : scheduleLength nb nk ≤ 120 :=
  Nat.mul_le_mul hnb (show roundCount nb nk + 1 ≤ 15 by simp only [roundCount]; omega)

/-- Within the schedule, W holds the words of expand_key (42_key_schedule.md R89). -/
theorem expandKey_getElem?_eq_scheduleWord (key : Vector Byte 32) {nb nk i : Nat} (hnb : 0 < nb) (hnb8 : nb ≤ 8)
    (hnk : nk ≤ 8) (hi : i < scheduleLength nb nk) :
    (expandKey (firstBytes key (4 * nk)) nb)[i]? = some (scheduleWord (scheduleOf key nb nk) i) := by
  have hlen : i < (expandKey (firstBytes key (4 * nk)) nb).length := by
    rwa [length_expandKey _ hnb, length_firstBytes, show min (4 * nk) 32 / 4 = nk by omega]
  have h120 : i < 120 := hi.trans_le (scheduleLength_le hnb8 hnk)
  simp [scheduleWord, scheduleOf, hlen, h120]

theorem scheduleWord_beyond_w (w : Vector SchedWord 120) {i : Nat} (hi : 120 ≤ i) :
    scheduleWord w i = ⟨0, 0, 0, 0⟩ := by simp [scheduleWord, hi]

/-- KEYEXP with a legal CFG completes with the schedule loaded. -/
theorem exec_keyexp {s : State} (hnb : legalWords s.nb = true) (hnk : legalWords s.nk = true) :
    exec .keyexp s = .next (s.loadSchedule.complete .noError) := exec_of_passes (keyexp_passes_iff.mpr ⟨hnb, hnk⟩)

/-- Settles O30: the checks pass, and W is expand_key's list, filled up with zero words. -/
theorem keyexpLoadsSchedule : Obligations.KeyexpLoadsSchedule := by
  intro s hk hb
  have hnb := (legalWords_iff s.nb).mpr hb
  have hnk := (legalWords_iff s.nk).mpr hk
  obtain ⟨hbpos, hb8⟩ := toNat_of_legalWords hnb
  obtain ⟨-, hk8⟩ := toNat_of_legalWords hnk
  refine ⟨_, exec_keyexp hnb hnk, rfl, fun i hi => ?within, fun i hi => ?beyond⟩
  case within =>
    rw [regBytes_eq_firstBytes s.key (by omega)]
    exact expandKey_getElem?_eq_scheduleWord s.key hbpos hb8 hk8 hi
  case beyond =>
    rcases Nat.lt_or_ge i 120 with h | h
    · exact scheduleWord_scheduleOf_beyond s.key hbpos hk8 h hi
    · exact scheduleWord_beyond_w _ h

end Sys2Proof.Machine

/-! ## Writing a string over a register -/

namespace Sys2Proof.Machine

section

variable {m : Nat} {reg : Vector Byte m} {st : Bytes} {j : Nat}

theorem byteOf_beyond (reg : Vector Byte m) (h : m ≤ j) : byteOf reg j = 0 := by simp [byteOf, h]

theorem byteOf_overwrite_of_le (reg : Vector Byte m) (h : st.length ≤ j) :
    byteOf (overwrite reg st) j = byteOf reg j := by
  rcases Nat.lt_or_ge j m with hj | hj
  · rw [byteOf_overwrite reg st hj, List.getD_eq_default st _ h]
  · rw [byteOf_beyond _ hj, byteOf_beyond _ hj]

/-- What was written over the start of a register is what stands there. -/
theorem firstBytes_overwrite (reg : Vector Byte m) (hst : st.length ≤ m) :
    firstBytes (overwrite reg st) st.length = st := by
  refine List.ext_getElem (by simp [hst]) fun j _ hj => ?_
  simp [firstBytes, overwrite, hj]

/-- A second string of the same length hides the first. -/
theorem overwrite_overwrite (reg : Vector Byte m) {st' : Bytes} (h : st'.length = st.length) :
    overwrite (overwrite reg st) st' = overwrite reg st' := by
  ext j hj
  rcases Nat.lt_or_ge j st'.length with hlt | hge
  · simp [overwrite, hlt]
  · simp [overwrite, hge, h ▸ hge]

theorem overwrite_firstBytes (reg : Vector Byte m) (n : Nat) : overwrite reg (firstBytes reg n) = reg := by
  ext j hj
  rcases Nat.lt_or_ge j n with hlt | hge
  · simp [overwrite, firstBytes, hlt, hj]
  · simp [overwrite, firstBytes, hge]

end

end Sys2Proof.Machine

/-! ## The commands that map the block -/

namespace Sys2Proof.Machine

open Sys2Proof.Claim

/-- The successful completion of a command that wrote `st` over the start of BLK (43_cipher_rounds.md R100 to R108). -/
def State.blockDone (s : State) (st : Bytes) : State := (s.storeBlk st).complete .noError

section

variable {s : State} {i : Instr}

/-- A command that passes its checks and maps BLK[0..4·nb] completes with the image. -/
theorem exec_mapBlk {nb : Nat} {f : Bytes → Bytes} (hc : firstFailing (checksOf s i) = none)
    (he : effectOf s i = (s.mapBlk nb f, .noError)) :
    exec i s = .next (s.blockDone (f (firstBytes s.blk (4 * nb)))) := by
  rw [exec_of_passes hc, he]
  rfl

theorem blockSize_passes (hnb : legalWords s.nb = true) : firstFailing [s.blockSizeCheck] = none := by
  simp [firstFailing_eq_none, hnb]

theorem blockSize_key_pass (hnb : legalWords s.nb = true) (hk : s.keyValid = true) :
    firstFailing [s.blockSizeCheck, s.keyCheck] = none := by
  simp [firstFailing_eq_none, hnb, hk]

theorem addRoundKey_passes {r : Byte} (hnb : legalWords s.nb = true) (hk : s.keyValid = true)
    (hr : r.toNat ≤ s.schedNr) : firstFailing (checksOf s (.addRoundKey r)) = none := by
  simp [firstFailing_eq_none, checksOf, hnb, hk, hr]

end

section

variable {m : Nat} (reg : Vector Byte m)

/-- Byte j of a register whose first n bytes were mapped. -/
theorem byteOf_overwrite_map (f : Byte → Byte) (n : Nat) {j : Nat} (hj : j < m) :
    byteOf (overwrite reg ((firstBytes reg n).map f)) j = if j < n then f (byteOf reg j) else byteOf reg j := by
  rw [byteOf_overwrite reg _ hj]
  split
  case isTrue hlt => simp [firstBytes, byteOf, hlt, hj]
  case isFalse hge => exact List.getD_eq_default _ _ (by simp; omega)

/-- Row r, column c of BLK[0..4·nb] is byte 4·c + r of BLK (00_scope.md R10). -/
theorem cell_firstBytes {nb r c : Nat} (hr : r < 4) (hc : c < nb) :
    cell (firstBytes reg (4 * nb)) r c = byteOf reg (4 * c + r) := getD_firstBytes reg (by omega)

/-- Byte j of a register whose first bytes were written over with a matrix. -/
theorem byteOf_overwrite_matrix {nb j : Nat} (f : Nat → Nat → Byte) (hj : j < m) :
    byteOf (overwrite reg (matrix nb f)) j = if j < 4 * nb then f (j % 4) (j / 4) else byteOf reg j := by
  rw [byteOf_overwrite reg _ hj]
  split
  case isTrue hlt => simp [matrix, hlt]
  case isFalse hge => rw [List.getD_eq_default _ _ (by rw [length_matrix]; omega)]

/-- The byte at row r, column c of the matrix. -/
theorem byteOf_overwrite_matrix_cell {nb r c : Nat} (f : Nat → Nat → Byte) (hnb : 4 * nb ≤ m) (hr : r < 4)
    (hc : c < nb) : byteOf (overwrite reg (matrix nb f)) (4 * c + r) = f r c := by
  rw [byteOf_overwrite_matrix reg f (by omega), if_pos (by omega), Nat.mul_add_mod, Nat.mod_eq_of_lt hr,
    Nat.mul_add_div (by decide), Nat.div_eq_of_lt hr, Nat.add_zero]

theorem byteOf_overwrite_matrix_beyond {nb j : Nat} (f : Nat → Nat → Byte) (h : 4 * nb ≤ j) :
    byteOf (overwrite reg (matrix nb f)) j = byteOf reg j :=
  byteOf_overwrite_of_le reg (by rwa [length_matrix])

end

/-- Settles O32: the two commands map a table over BLK[0..4·NB]. -/
theorem subBytesCommands : Obligations.SubBytesCommands := by
  intro s hs
  have hc := blockSize_passes ((legalWords_iff s.nb).mpr hs)
  exact ⟨⟨_, exec_mapBlk hc rfl, rfl, fun _ hj => byteOf_overwrite_map s.blk sboxOf _ hj⟩,
    ⟨_, exec_mapBlk hc rfl, rfl, fun _ hj => byteOf_overwrite_map s.blk invSboxOf _ hj⟩⟩

/-! ### ShiftRows -/

theorem shiftOffset_eq_rowOffset (nb : Nat) {r : Nat} (hr : r < 4) : shiftOffset nb r = rowOffset nb r := by
  by_cases h8 : nb = 8
  · subst h8
    interval_cases r <;> rfl
  · simp only [shiftOffset, rowOffset, h8]
    interval_cases r <;> rfl

theorem shiftOffset_le {nb r : Nat} (hnb : 4 ≤ nb) (hr : r < 4) : shiftOffset nb r ≤ nb := by
  simp only [shiftOffset]
  split <;> omega

/-- Rotating a column index by `o` and back again. -/
theorem column_add_sub {nb c o : Nat} (hc : c < nb) (ho : o ≤ nb) : ((c + o) % nb + (nb - o)) % nb = c := by
  rw [Nat.mod_add_mod, show c + o + (nb - o) = c + nb by omega, Nat.add_mod_right, Nat.mod_eq_of_lt hc]

theorem toNat_cases_of_legalWords {n : BitVec 4} (h : legalWords n = true) :
    n.toNat = 4 ∨ n.toNat = 6 ∨ n.toNat = 8 := by
  rcases (legalWords_iff n).mp h with rfl | rfl | rfl <;> decide

/-- Settles O33: the image's cell at row r, column c is the block's cell at the rotated column. -/
theorem shiftRowsCommands : Obligations.ShiftRowsCommands := by
  intro s hs
  have hnb := (legalWords_iff s.nb).mpr hs
  have hn := toNat_cases_of_legalWords hnb
  have hc := blockSize_passes hnb
  refine ⟨⟨_, exec_mapBlk hc rfl, rfl, fun r hr c hcol => ?left,
      fun _ hj => byteOf_overwrite_matrix_beyond _ _ hj⟩,
    ⟨_, exec_mapBlk hc rfl, rfl, fun r hr c hcol => ?right,
      fun _ hj => byteOf_overwrite_matrix_beyond _ _ hj⟩⟩
  case left =>
    rw [← shiftOffset_eq_rowOffset _ hr]
    exact (byteOf_overwrite_matrix_cell s.blk _ (by omega) hr hcol).trans
      (cell_firstBytes s.blk hr (Nat.mod_lt _ (by omega)))
  case right =>
    rw [← shiftOffset_eq_rowOffset _ hr]
    refine (byteOf_overwrite_matrix_cell s.blk _ (by omega) hr (Nat.mod_lt _ (by omega))).trans ?_
    rw [column_add_sub hcol (shiftOffset_le (by omega) hr), cell_firstBytes s.blk hr hcol]

/-! ### MixColumns -/

/-- A row of a matrix, with the entries `m`, times a column. -/
def rowTimes (m : SchedWord) (a0 a1 a2 a3 : Byte) : Byte :=
  gfMul m.b0 a0 ^^^ gfMul m.b1 a1 ^^^ gfMul m.b2 a2 ^^^ gfMul m.b3 a3

/-- Every column times the matrix whose row r is `m` rotated r places to the right. -/
def multiplyColumns (m : SchedWord) (nb : Nat) (st : Bytes) : Bytes := matrix nb fun r c =>
  rowTimes m (cell st r c) (cell st ((r + 1) % 4) c) (cell st ((r + 2) % 4) c) (cell st ((r + 3) % 4) c)

theorem mixColumns_eq : mixColumns = multiplyColumns ⟨2, 3, 1, 1⟩ := rfl

theorem invMixColumns_eq : invMixColumns = multiplyColumns ⟨14, 11, 13, 9⟩ := rfl

theorem byteOf_overwrite_multiplyColumns (reg : Vector Byte 32) (m : SchedWord) {nb r c : Nat} (hnb : nb ≤ 8)
    (hr : r < 4) (hc : c < nb) :
    byteOf (overwrite reg (multiplyColumns m nb (firstBytes reg (4 * nb)))) (4 * c + r) =
      rowTimes m (byteOf reg (4 * c + r)) (byteOf reg (4 * c + (r + 1) % 4)) (byteOf reg (4 * c + (r + 2) % 4))
        (byteOf reg (4 * c + (r + 3) % 4)) := by
  have hmod (k : Nat) : (r + k) % 4 < 4 := Nat.mod_lt _ (by decide)
  rw [multiplyColumns, byteOf_overwrite_matrix_cell reg _ (by omega) hr hc]
  simp only [cell_firstBytes reg hr hc, cell_firstBytes reg (hmod _) hc]

theorem rowTimes_rotate (b0 b1 b2 b3 a0 a1 a2 a3 : Byte) :
    rowTimes ⟨b0, b1, b2, b3⟩ a1 a2 a3 a0 = rowTimes ⟨b3, b0, b1, b2⟩ a0 a1 a2 a3 := by
  simp only [rowTimes]
  ac_rfl

/-- The image of column c, row by row of the matrix. -/
theorem column_overwrite_multiplyColumns (reg : Vector Byte 32) (b0 b1 b2 b3 : Byte) {nb c : Nat} (hnb : nb ≤ 8)
    (hc : c < nb) (a0 a1 a2 a3 : Byte) (h0 : a0 = byteOf reg (4 * c)) (h1 : a1 = byteOf reg (4 * c + 1))
    (h2 : a2 = byteOf reg (4 * c + 2)) (h3 : a3 = byteOf reg (4 * c + 3)) {reg' : Vector Byte 32}
    (h : reg' = overwrite reg (multiplyColumns ⟨b0, b1, b2, b3⟩ nb (firstBytes reg (4 * nb)))) :
    byteOf reg' (4 * c) = rowTimes ⟨b0, b1, b2, b3⟩ a0 a1 a2 a3 ∧
      byteOf reg' (4 * c + 1) = rowTimes ⟨b3, b0, b1, b2⟩ a0 a1 a2 a3 ∧
      byteOf reg' (4 * c + 2) = rowTimes ⟨b2, b3, b0, b1⟩ a0 a1 a2 a3 ∧
      byteOf reg' (4 * c + 3) = rowTimes ⟨b1, b2, b3, b0⟩ a0 a1 a2 a3 := by
  subst h h0 h1 h2 h3
  have hrow (r : Nat) (hr : r < 4) := byteOf_overwrite_multiplyColumns reg ⟨b0, b1, b2, b3⟩ hnb hr hc
  simp only [← rowTimes_rotate b0 b1 b2 b3, ← rowTimes_rotate b3 b0 b1 b2, ← rowTimes_rotate b2 b3 b0 b1]
  exact ⟨hrow 0 (by decide), hrow 1 (by decide), hrow 2 (by decide), hrow 3 (by decide)⟩

/-- Settles O34: both commands multiply the columns by a matrix, and in the first the entries 1 drop out. -/
theorem mixColumnsCommands : Obligations.MixColumnsCommands := by
  intro s hs
  have hnb := (legalWords_iff s.nb).mpr hs
  have hn := (toNat_of_legalWords hnb).2
  have hc := blockSize_passes hnb
  refine ⟨⟨_, exec_mapBlk hc rfl, rfl, fun c hcol a0 a1 a2 a3 h0 h1 h2 h3 => ?mix,
      fun _ hj => byteOf_overwrite_matrix_beyond _ _ hj⟩,
    ⟨_, exec_mapBlk hc rfl, rfl, fun c hcol a0 a1 a2 a3 h0 h1 h2 h3 => ?invMix,
      fun _ hj => byteOf_overwrite_matrix_beyond _ _ hj⟩⟩
  case mix =>
    have hmix := column_overwrite_multiplyColumns s.blk 2 3 1 1 hn hcol a0 a1 a2 a3 h0 h1 h2 h3 rfl
    simp only [rowTimes, gfMul_one_left] at hmix
    exact hmix
  case invMix => exact column_overwrite_multiplyColumns s.blk 14 11 13 9 hn hcol a0 a1 a2 a3 h0 h1 h2 h3 rfl

/-! ### AddRoundKey -/

/-- Settles O35: byte j of the image is the cell at row j mod 4, column j div 4, XORed with its byte of the slice. -/
theorem addRoundKeyCommand : Obligations.AddRoundKeyCommand := by
  intro s r hs hk hr
  refine ⟨_, exec_mapBlk (addRoundKey_passes ((legalWords_iff s.nb).mpr hs) hk hr) rfl, rfl, fun j hj => ?_⟩
  refine (byteOf_overwrite_matrix s.blk _ hj).trans (ite_congr rfl (fun hlt => ?_) fun _ => rfl)
  have hrow : j % 4 < 4 := Nat.mod_lt _ (by decide)
  have hcol : j / 4 < s.schedNb := Nat.div_lt_of_lt_mul hlt
  rw [cell_firstBytes s.blk hrow hcol, Nat.div_add_mod]
  rfl

/-! ### ENC_BLOCK and DEC_BLOCK -/

/-- Settles O36: E and D answer 4·SNB bytes, and BLK holds as many. -/
theorem blockCommands : Obligations.BlockCommands := by
  intro s hs hk hok
  obtain ⟨hnb, -, hsnb, -, -⟩ := hok hk
  have hfit : 4 * s.snb.toNat ≤ 32 := by have := toNat_of_legalWords hnb; rw [hsnb]; omega
  have hc := blockSize_key_pass hnb hk
  have hwritten {st : Bytes} (hst : st.length = 4 * s.snb.toNat) :
      regBytes (overwrite s.blk st) (4 * s.snb.toNat) = st := by
    rw [regBytes_eq_firstBytes _ hfit, ← hst, firstBytes_overwrite s.blk (hst ▸ hfit)]
  rw [regBytes_eq_firstBytes s.blk hfit]
  exact ⟨⟨_, exec_mapBlk hc rfl, rfl, hwritten (length_encrypt s _),
      fun _ hj => byteOf_overwrite_of_le s.blk ((length_encrypt s _).trans_le hj)⟩,
    ⟨_, exec_mapBlk hc rfl, rfl, hwritten (length_decrypt s _),
      fun _ hj => byteOf_overwrite_of_le s.blk ((length_decrypt s _).trans_le hj)⟩⟩

end Sys2Proof.Machine

/-! ## The inverse round transforms -/

namespace Sys2Proof.Machine

open Sys2Proof.Claim

section

variable {nb : Nat} {st : Bytes}

@[simp] theorem invSubBytes_subBytes (st : Bytes) : invSubBytes (subBytes st) = st := by
  simp [invSubBytes, subBytes, Function.comp_def]

@[simp] theorem subBytes_invSubBytes (st : Bytes) : subBytes (invSubBytes st) = st := by
  simp [invSubBytes, subBytes, Function.comp_def]

/-- Rotating a column index back by `o` and again by `o`. -/
theorem column_sub_add {nb c o : Nat} (hc : c < nb) (ho : o ≤ nb) : ((c + (nb - o)) % nb + o) % nb = c := by
  rw [Nat.mod_add_mod, show c + (nb - o) + o = c + nb by omega, Nat.add_mod_right, Nat.mod_eq_of_lt hc]

theorem invShiftRows_shiftRows (hnb : 4 ≤ nb) (h : st.length = 4 * nb) : invShiftRows nb (shiftRows nb st) = st := by
  refine ext_cell (length_invShiftRows _ _) h fun r hr c hc => ?_
  rw [invShiftRows, cell_matrix _ hr hc, shiftRows, cell_matrix _ hr (Nat.mod_lt _ (by omega)),
    column_sub_add hc (shiftOffset_le hnb hr)]

theorem shiftRows_invShiftRows (hnb : 4 ≤ nb) (h : st.length = 4 * nb) : shiftRows nb (invShiftRows nb st) = st := by
  refine ext_cell (length_shiftRows _ _) h fun r hr c hc => ?_
  rw [shiftRows, cell_matrix _ hr hc, invShiftRows, cell_matrix _ hr (Nat.mod_lt _ (by omega)),
    column_add_sub hc (shiftOffset_le hnb hr)]

/-! ### MixColumns: products of circulant matrices -/

/-- The first row of the product of the two circulant matrices with first rows `n` and `m`. -/
def rowProduct (n m : SchedWord) : SchedWord :=
  ⟨rowTimes n m.b0 m.b3 m.b2 m.b1, rowTimes n m.b1 m.b0 m.b3 m.b2, rowTimes n m.b2 m.b1 m.b0 m.b3,
    rowTimes n m.b3 m.b2 m.b1 m.b0⟩

theorem rowTimes_rowTimes (n m : SchedWord) (a0 a1 a2 a3 : Byte) :
    rowTimes n (rowTimes m a0 a1 a2 a3) (rowTimes m a1 a2 a3 a0) (rowTimes m a2 a3 a0 a1) (rowTimes m a3 a0 a1 a2) =
      rowTimes (rowProduct n m) a0 a1 a2 a3 := by
  simp only [rowProduct, rowTimes, gfMul_xor_left, gfMul_xor_right, gfMul_assoc]
  ac_rfl

theorem rowTimes_one (a0 a1 a2 a3 : Byte) : rowTimes ⟨1, 0, 0, 0⟩ a0 a1 a2 a3 = a0 := by
  rw [rowTimes, gfMul_one_left, gfMul_zero_left, gfMul_zero_left, gfMul_zero_left]
  simp

/-- Multiplying the columns twice is multiplying them by the product of the matrices. -/
theorem multiplyColumns_multiplyColumns (n m : SchedWord) (nb : Nat) (st : Bytes) :
    multiplyColumns n nb (multiplyColumns m nb st) = multiplyColumns (rowProduct n m) nb st := by
  refine ext_cell (length_matrix _ _) (length_matrix _ _) fun r hr c hc => ?_
  have hmod (k : Nat) : (r + k) % 4 < 4 := Nat.mod_lt _ (by decide)
  simp only [multiplyColumns, cell_matrix _ hr hc, cell_matrix _ (hmod _) hc, ← rowTimes_rowTimes]
  interval_cases r <;> rfl

theorem multiplyColumns_one (h : st.length = 4 * nb) : multiplyColumns ⟨1, 0, 0, 0⟩ nb st = st :=
  ext_cell (length_matrix _ _) h fun r hr c hc => by rw [multiplyColumns, cell_matrix _ hr hc, rowTimes_one]

theorem invMixColumns_mixColumns (h : st.length = 4 * nb) : invMixColumns nb (mixColumns nb st) = st := by
  have hone : rowProduct ⟨14, 11, 13, 9⟩ ⟨2, 3, 1, 1⟩ = ⟨1, 0, 0, 0⟩ := by decide
  rw [mixColumns_eq, invMixColumns_eq, multiplyColumns_multiplyColumns, hone, multiplyColumns_one h]

theorem mixColumns_invMixColumns (h : st.length = 4 * nb) : mixColumns nb (invMixColumns nb st) = st := by
  have hone : rowProduct ⟨2, 3, 1, 1⟩ ⟨14, 11, 13, 9⟩ = ⟨1, 0, 0, 0⟩ := by decide
  rw [mixColumns_eq, invMixColumns_eq, multiplyColumns_multiplyColumns, hone, multiplyColumns_one h]

/-- AddRoundKey undoes itself (43_cipher_rounds.md R95). -/
theorem addRoundKey_addRoundKey (w : Vector SchedWord 120) (k : Nat) (h : st.length = 4 * nb) :
    addRoundKey w nb k (addRoundKey w nb k st) = st :=
  ext_cell (length_addRoundKey _ _ _ _) h fun r hr c hc => by
    rw [addRoundKey, cell_matrix _ hr hc, addRoundKey, cell_matrix _ hr hc, BitVec.xor_assoc, BitVec.xor_self,
      BitVec.xor_zero]

end

/-! ### E and D are inverse (43_cipher_rounds.md R99) -/

/-- Undoing every step of a fold in reverse order gives its start back. -/
theorem foldl_reverse_cancel {α β : Type} {P : β → Prop} {f g : β → α → β} (hP : ∀ b a, P b → P (f b a))
    (hcancel : ∀ b a, P b → g (f b a) a = b) (as : List α) {b : β} (hb : P b) :
    as.reverse.foldl g (as.foldl f b) = b := by
  induction as generalizing b with
  | nil => rfl
  | cons a as ih =>
    rw [List.reverse_cons, List.foldl_append, List.foldl_cons (l := as), ih (hP b a hb)]
    exact hcancel b a hb

section

variable {w : Vector SchedWord 120} {nb : Nat} {st : Bytes}

@[simp] theorem length_encRound (w : Vector SchedWord 120) (nb : Nat) (st : Bytes) (r : Nat) :
    (encRound w nb st r).length = 4 * nb := length_addRoundKey _ _ _ _

@[simp] theorem length_decRound (w : Vector SchedWord 120) (nb : Nat) (st : Bytes) (r : Nat) :
    (decRound w nb st r).length = 4 * nb := by simp [decRound]

theorem decRound_encRound (hnb : 4 ≤ nb) (h : st.length = 4 * nb) (r : Nat) :
    decRound w nb (encRound w nb st r) r = st := by
  rw [decRound, encRound, addRoundKey_addRoundKey _ _ (length_mixColumns _ _),
    invMixColumns_mixColumns (length_shiftRows _ _), invShiftRows_shiftRows hnb (by rwa [length_subBytes]),
    invSubBytes_subBytes]

theorem encRound_decRound (hnb : 4 ≤ nb) (h : st.length = 4 * nb) (r : Nat) :
    encRound w nb (decRound w nb st r) r = st := by
  rw [decRound, encRound, subBytes_invSubBytes, shiftRows_invShiftRows hnb (length_invMixColumns _ _),
    mixColumns_invMixColumns (length_addRoundKey _ _ _ _), addRoundKey_addRoundKey _ _ h]

theorem length_foldl_round {f : Bytes → Nat → Bytes} (hf : ∀ b r, (f b r).length = 4 * nb) (rs : List Nat)
    (h : st.length = 4 * nb) : (rs.foldl f st).length = 4 * nb := by
  induction rs generalizing st with
  | nil => exact h
  | cons r rs ih => exact ih (hf st r)

theorem decryptBlock_encryptBlock (hnb : 4 ≤ nb) (nr : Nat) (h : st.length = 4 * nb) :
    decryptBlock w nb nr (encryptBlock w nb nr st) = st := by
  have hmid := length_foldl_round (length_encRound w nb) (List.range' 1 (nr - 1)) (length_addRoundKey w nb 0 st)
  rw [decryptBlock, encryptBlock, addRoundKey_addRoundKey _ _ (length_shiftRows _ _),
    invShiftRows_shiftRows hnb (by rwa [length_subBytes]), invSubBytes_subBytes,
    foldl_reverse_cancel (fun b r _ => length_encRound w nb b r) (fun b r hb => decRound_encRound hnb hb r) _
      (length_addRoundKey w nb 0 st), addRoundKey_addRoundKey _ _ h]

theorem encryptBlock_decryptBlock (hnb : 4 ≤ nb) (nr : Nat) (h : st.length = 4 * nb) :
    encryptBlock w nb nr (decryptBlock w nb nr st) = st := by
  have hlast : (invSubBytes (invShiftRows nb (addRoundKey w nb nr st))).length = 4 * nb := by simp
  have hmid := length_foldl_round (length_decRound w nb) (List.range' 1 (nr - 1)).reverse hlast
  have hback := foldl_reverse_cancel (fun b r _ => length_decRound w nb b r)
    (fun b r hb => encRound_decRound (w := w) hnb hb r) (List.range' 1 (nr - 1)).reverse hlast
  rw [List.reverse_reverse] at hback
  rw [decryptBlock, encryptBlock, addRoundKey_addRoundKey _ _ hmid, hback, subBytes_invSubBytes,
    shiftRows_invShiftRows hnb (length_addRoundKey _ _ _ _), addRoundKey_addRoundKey _ _ h]

end

end Sys2Proof.Machine

/-! ## Sequences of commands that map the block -/

namespace Sys2Proof.Machine

open Sys2Proof.Claim

theorem runList_cons {i : Instr} {s t : State} (is : List Instr) (h : exec i s = .next t) :
    runList (i :: is) s = runList is t := by
  simp only [runList, h]

theorem runList_append {is : List Instr} {s t : State} (js : List Instr) (h : runList is s = .next t) :
    runList (is ++ js) s = runList js t := by
  induction is generalizing s with
  | nil =>
    obtain rfl : s = t := by simpa [runList] using h
    rfl
  | cons i is ih =>
    obtain ⟨u, hu⟩ := exec_answers i s
    rw [runList_cons is hu] at h
    rw [List.cons_append, runList_cons _ hu, ih h]

/-- From a state left by a block command, the commands map each block of SNB columns by `f`. -/
def MapsBlock (s : State) (is : List Instr) (f : Bytes → Bytes) : Prop :=
  ∀ st, st.length = 4 * s.schedNb →
    (f st).length = 4 * s.schedNb ∧ runList is (s.blockDone st) = .next (s.blockDone (f st))

section

variable {s : State} {is js : List Instr} {f g : Bytes → Bytes}

theorem MapsBlock.nil : MapsBlock s [] id := fun _ h => ⟨h, rfl⟩

theorem MapsBlock.append (hf : MapsBlock s is f) (hg : MapsBlock s js g) : MapsBlock s (is ++ js) (g ∘ f) := by
  intro st hst
  obtain ⟨hlen, hrun⟩ := hf st hst
  obtain ⟨hlen', hrun'⟩ := hg _ hlen
  exact ⟨hlen', (runList_append js hrun).trans hrun'⟩

/-- Rounds run one after the other fold their maps. -/
theorem MapsBlock.flatMap {cmds : Nat → List Instr} {round : Bytes → Nat → Bytes} {rs : List Nat}
    (h : ∀ r ∈ rs, MapsBlock s (cmds r) fun st => round st r) :
    MapsBlock s (rs.flatMap cmds) fun st => rs.foldl round st := by
  induction rs with
  | nil => exact MapsBlock.nil
  | cons r rs ih =>
    rw [List.forall_mem_cons] at h
    exact h.1.append (ih h.2)

/-- With BLK's own first bytes written over it, a completed state is itself. -/
theorem blockDone_firstBytes (s : State) (n : Nat) : s.blockDone (firstBytes s.blk n) = succeeded s := by
  rw [State.blockDone, State.storeBlk, overwrite_firstBytes]
  rfl

/-- A sequence that maps the block maps it from any state, when its first command does not tell that state from one that
a completion left. -/
theorem runList_of_mapsBlock {i : Instr} (hfit : 4 * s.schedNb ≤ 32) (hi : exec i (succeeded s) = exec i s)
    (h : MapsBlock s (i :: is) f) :
    runList (i :: is) s = .next (s.blockDone (f (firstBytes s.blk (4 * s.schedNb)))) := by
  have hrun := (h (firstBytes s.blk (4 * s.schedNb)) (by rw [length_firstBytes]; omega)).2
  rwa [blockDone_firstBytes, runList, hi] at hrun

end

/-! ### Each command -/

section

variable {s : State}

/-- A command that maps the block in every state a block command leaves. -/
theorem mapsBlock_of_effect {i : Instr} {f : Bytes → Bytes} (hfit : 4 * s.schedNb ≤ 32)
    (hc : ∀ st, firstFailing (checksOf (s.blockDone st) i) = none)
    (he : ∀ st, effectOf (s.blockDone st) i = ((s.blockDone st).mapBlk s.schedNb f, .noError))
    (hf : ∀ st, st.length = 4 * s.schedNb → (f st).length = 4 * s.schedNb) : MapsBlock s [i] f := by
  intro st hst
  refine ⟨hf st hst, (runList_cons [] (exec_mapBlk (hc st) (he st))).trans ?_⟩
  have hblk : firstBytes (s.blockDone st).blk (4 * s.schedNb) = st := hst ▸ firstBytes_overwrite s.blk (hst ▸ hfit)
  have htwice : overwrite (overwrite s.blk st) (f st) = overwrite s.blk (f st) :=
    overwrite_overwrite s.blk ((hf st hst).trans hst.symm)
  rw [hblk, State.blockDone, State.storeBlk, State.blockDone, State.complete_blk, State.storeBlk_blk, htwice]
  rfl

end

/-- The middle rounds are rounds of the schedule. -/
theorem le_schedNr_of_mem {s : State} {r : Nat} (hr : r ∈ List.range' 1 (s.schedNr - 1)) : r ≤ s.schedNr := by
  rw [List.mem_range'_1] at hr
  omega

/-- With an expanded key CFG is legal and SNB is NB (10_state.md R35), which is all that the block commands ask. -/
structure BlockReady (s : State) : Prop where
  keyed : s.keyValid = true
  legal : legalWords s.nb = true
  own   : s.snb = s.nb

theorem State.ScheduleOk.blockReady {s : State} (hok : s.ScheduleOk) (hk : s.keyValid = true) : BlockReady s := by
  obtain ⟨hnb, -, hsnb, -, -⟩ := hok hk
  exact ⟨hk, hnb, hsnb⟩

section

variable {s : State} (h : BlockReady s)

include h

theorem BlockReady.schedNb_eq : s.schedNb = s.nb.toNat := congrArg BitVec.toNat h.own

theorem BlockReady.four_le_schedNb : 4 ≤ s.schedNb := by
  have := toNat_cases_of_legalWords h.legal
  rw [h.schedNb_eq]
  omega

theorem BlockReady.fits : 4 * s.schedNb ≤ 32 := by
  have := toNat_cases_of_legalWords h.legal
  rw [h.schedNb_eq]
  omega

/-- The commands that work at CFG.NB need no schedule. -/
theorem BlockReady.mapsBlock_of_nb {i : Instr} {f : Nat → Bytes → Bytes}
    (hc : ∀ u, checksOf u i = [u.blockSizeCheck])
    (he : ∀ u, effectOf u i = (u.mapBlk u.nb.toNat (f u.nb.toNat), .noError))
    (hf : ∀ nb st, st.length = 4 * nb → (f nb st).length = 4 * nb) : MapsBlock s [i] (f s.schedNb) := by
  refine mapsBlock_of_effect h.fits (fun st => ?_) (fun st => ?_) (hf _)
  · rw [hc]
    exact blockSize_passes (s := s.blockDone st) h.legal
  · rw [he, h.schedNb_eq]
    rfl

theorem BlockReady.subBytes : MapsBlock s [.subBytes] subBytes :=
  h.mapsBlock_of_nb (f := fun _ => Machine.subBytes) (fun _ => rfl) (fun _ => rfl) fun _ st hst => by simpa

theorem BlockReady.invSubBytes : MapsBlock s [.invSubBytes] invSubBytes :=
  h.mapsBlock_of_nb (f := fun _ => Machine.invSubBytes) (fun _ => rfl) (fun _ => rfl) fun _ st hst => by simpa

theorem BlockReady.shiftRows : MapsBlock s [.shiftRows] (shiftRows s.schedNb) :=
  h.mapsBlock_of_nb (fun _ => rfl) (fun _ => rfl) fun _ _ _ => length_shiftRows _ _

theorem BlockReady.invShiftRows : MapsBlock s [.invShiftRows] (invShiftRows s.schedNb) :=
  h.mapsBlock_of_nb (fun _ => rfl) (fun _ => rfl) fun _ _ _ => length_invShiftRows _ _

theorem BlockReady.mixColumns : MapsBlock s [.mixColumns] (mixColumns s.schedNb) :=
  h.mapsBlock_of_nb (fun _ => rfl) (fun _ => rfl) fun _ _ _ => length_mixColumns _ _

theorem BlockReady.invMixColumns : MapsBlock s [.invMixColumns] (invMixColumns s.schedNb) :=
  h.mapsBlock_of_nb (fun _ => rfl) (fun _ => rfl) fun _ _ _ => length_invMixColumns _ _

theorem BlockReady.addRoundKey {r : Nat} (hr : r ≤ s.schedNr) :
    MapsBlock s [.addRoundKey (BitVec.ofNat 8 r)] (addRoundKey s.w s.schedNb r) := by
  have hNr : s.schedNr ≤ 21 := by
    have := s.snb.isLt
    have := s.snk.isLt
    simp only [State.schedNr, roundCount]
    omega
  have hbyte : (BitVec.ofNat 8 r).toNat = r := by simp; omega
  refine mapsBlock_of_effect h.fits (fun st => ?_) (fun st => ?_) fun _ _ => length_addRoundKey _ _ _ _
  · exact addRoundKey_passes (s := s.blockDone st) h.legal h.keyed (hbyte.trans_le hr)
  · rw [effectOf, hbyte]
    rfl

theorem BlockReady.encBlock : MapsBlock s [.encBlock] s.encrypt :=
  mapsBlock_of_effect h.fits (fun st => blockSize_key_pass (s := s.blockDone st) h.legal h.keyed) (fun _ => rfl)
    fun _ _ => length_encrypt _ _

theorem BlockReady.decBlock : MapsBlock s [.decBlock] s.decrypt :=
  mapsBlock_of_effect h.fits (fun st => blockSize_key_pass (s := s.blockDone st) h.legal h.keyed) (fun _ => rfl)
    fun _ _ => length_decrypt _ _

/-! ### E and D as sequences of round commands -/

theorem BlockReady.encryptRound {r : Nat} (hr : r ≤ s.schedNr) :
    MapsBlock s (encryptRound r) fun st => encRound s.w s.schedNb st r :=
  h.subBytes.append (h.shiftRows.append (h.mixColumns.append (h.addRoundKey hr)))

theorem BlockReady.decryptRound {r : Nat} (hr : r ≤ s.schedNr) :
    MapsBlock s (decryptRound r) fun st => decRound s.w s.schedNb st r :=
  (h.addRoundKey hr).append (h.invMixColumns.append (h.invShiftRows.append h.invSubBytes))

theorem BlockReady.encryptCommands : MapsBlock s (encryptCommands s.schedNr) s.encrypt :=
  have first := h.addRoundKey (Nat.zero_le _)
  have middle := MapsBlock.flatMap fun _ hr => h.encryptRound (le_schedNr_of_mem hr)
  have last := h.subBytes.append (h.shiftRows.append (h.addRoundKey le_rfl))
  first.append (middle.append (last.append .nil))

theorem BlockReady.decryptCommands : MapsBlock s (decryptCommands s.schedNr) s.decrypt :=
  have first := (h.addRoundKey le_rfl).append (h.invShiftRows.append h.invSubBytes)
  have middle := MapsBlock.flatMap fun _ hr => h.decryptRound (le_schedNr_of_mem (List.mem_reverse.mp hr))
  have last := h.addRoundKey (Nat.zero_le _)
  first.append (middle.append (last.append .nil))

end

/-- Settles O37: each round command maps the block as its transform, and their composition is E. -/
theorem encBlockIsItsRoundCommands : Obligations.EncBlockIsItsRoundCommands := by
  intro s hk hok
  have h := hok.blockReady hk
  exact ⟨_, exec_mapBlk (blockSize_key_pass h.legal hk) rfl, runList_of_mapsBlock h.fits rfl h.encryptCommands⟩

/-- Settles O38: each round command maps the block as its transform, and their composition is D. -/
theorem decBlockIsItsRoundCommands : Obligations.DecBlockIsItsRoundCommands := by
  intro s hk hok
  have h := hok.blockReady hk
  exact ⟨_, exec_mapBlk (blockSize_key_pass h.legal hk) rfl, runList_of_mapsBlock h.fits rfl h.decryptCommands⟩

/-- Settles O39: E and D are inverse on a block, so BLK's own bytes are written over it. -/
theorem blockCommandsInvert : Obligations.BlockCommandsInvert := by
  intro s hk hok
  have h := hok.blockReady hk
  have hlen : (firstBytes s.blk (4 * s.schedNb)).length = 4 * s.schedNb := by
    rw [length_firstBytes, min_eq_left h.fits]
  constructor
  case left =>
    refine (runList_of_mapsBlock h.fits rfl (h.encBlock.append h.decBlock)).trans ?_
    rw [Function.comp_apply, State.decrypt, State.encrypt, decryptBlock_encryptBlock h.four_le_schedNb _ hlen,
      blockDone_firstBytes]
  case right =>
    refine (runList_of_mapsBlock h.fits rfl (h.decBlock.append h.encBlock)).trans ?_
    rw [Function.comp_apply, State.decrypt, State.encrypt, encryptBlock_decryptBlock h.four_le_schedNb _ hlen,
      blockDone_firstBytes]

end Sys2Proof.Machine

/-! ## Strings block by block -/

namespace Sys2Proof.Machine

open Sys2Proof.Claim

/-- Block `i` of a string of blocks of `bs` bytes, `s[i·bs..(i+1)·bs]` (44_cbc.md R109, R110). -/
def blockAt (bs : Nat) (s : Bytes) (i : Nat) : Bytes := slice s (i * bs) ((i + 1) * bs)

section

variable {bs k i : Nat} {s b : Bytes}

theorem blockAt_eq_take_drop (bs : Nat) (s : Bytes) (i : Nat) : blockAt bs s i = (s.drop (i * bs)).take bs := by
  rw [blockAt, slice, Nat.succ_mul, Nat.add_sub_cancel_left]

@[simp] theorem blockAt_zero (bs : Nat) (s : Bytes) : blockAt bs s 0 = s.take bs := by simp [blockAt_eq_take_drop]

@[simp] theorem blockAt_succ (bs : Nat) (s : Bytes) (i : Nat) : blockAt bs s (i + 1) = blockAt bs (s.drop bs) i := by
  rw [blockAt_eq_take_drop, blockAt_eq_take_drop, List.drop_drop, Nat.succ_mul, Nat.add_comm]

theorem blockAt_append_zero (hb : b.length = bs) (s : Bytes) : blockAt bs (b ++ s) 0 = b := by
  rw [blockAt_zero, List.take_left' hb]

theorem blockAt_append_succ (hb : b.length = bs) (s : Bytes) (i : Nat) :
    blockAt bs (b ++ s) (i + 1) = blockAt bs s i := by
  rw [blockAt_succ, List.drop_left' hb]

/-- The chaining value of 44_cbc.md R109 and R110, `iv` and then the block before, is a block of `iv || s`. -/
theorem blockAt_append (hb : b.length = bs) (s : Bytes) (i : Nat) :
    blockAt bs (b ++ s) i = if i = 0 then b else slice s ((i - 1) * bs) (i * bs) := by
  cases i with
  | zero => exact blockAt_append_zero hb s
  | succ i => exact blockAt_append_succ hb s i

theorem blockAt_eq_map_getD (h : (i + 1) * bs ≤ s.length) :
    blockAt bs s i = (List.range bs).map fun j => s.getD (i * bs + j) 0 := by
  rw [Nat.succ_mul] at h
  rw [blockAt_eq_take_drop]
  refine List.ext_getElem (by simp; omega) fun j hj hj' => ?_
  have hjs : i * bs + j < s.length := by simp at hj'; omega
  simp [hjs]

/-! ### The blocks that splitBlocks gives -/

theorem getElem_splitBlocks (h : i < (splitBlocks bs k s).length) : (splitBlocks bs k s)[i] = blockAt bs s i := by
  induction k generalizing s i with
  | zero => simp at h
  | succ k ih =>
    cases i with
    | zero => simp [splitBlocks]
    | succ i => simp [splitBlocks, ih]

theorem flatten_splitBlocks (bs k : Nat) (s : Bytes) : (splitBlocks bs k s).flatten = s.take (k * bs) := by
  induction k generalizing s with
  | zero => simp [splitBlocks]
  | succ k ih => rw [splitBlocks, List.flatten_cons, ih, Nat.succ_mul, Nat.add_comm, List.take_add]

theorem splitBlocks_append (hb : b.length = bs) (k : Nat) (s : Bytes) :
    splitBlocks bs (k + 1) (b ++ s) = b :: splitBlocks bs k s := by
  rw [splitBlocks, List.take_left' hb, List.drop_left' hb]

end

/-! ### Padding to a block boundary (44_cbc.md R109) -/

section

variable {bs : Nat} (hbs : 0 < bs)

include hbs

/-- `⌈n/bs⌉` by quotient and remainder. -/
theorem ceilDiv_eq_div_add (n : Nat) : ceilDiv n bs = n / bs + if n % bs = 0 then 0 else 1 := by
  cases n with
  | zero => simp [ceilDiv, hbs]
  | succ n =>
    rw [ceilDiv, Nat.succ_add_sub_one, Nat.add_div_right n hbs, Nat.succ_div]
    simp only [Nat.dvd_iff_mod_eq_zero]
    split <;> rfl

theorem le_ceilDiv_mul (n : Nat) : n ≤ ceilDiv n bs * bs := by
  have := Nat.lt_div_mul_add (a := n + bs - 1) hbs
  rw [ceilDiv]
  omega

theorem length_zeroPad (p : Bytes) : (zeroPad bs p).length = ceilDiv p.length bs * bs := by
  have := le_ceilDiv_mul hbs p.length
  rw [zeroPad, List.length_append, length_zeroBytes]
  omega

end

/-- The bytes that zero padding adds are what a string reads as beyond its end. -/
theorem getD_zeroPad (bs : Nat) (p : Bytes) (j : Nat) : (zeroPad bs p).getD j 0 = p.getD j 0 := by
  rcases Nat.lt_or_ge j p.length with h | h
  · rw [zeroPad, List.getD_append _ _ _ _ h]
  · rw [zeroPad, List.getD_append_right _ _ _ _ h, List.getD_eq_default _ _ h]
    simp [zeroBytes]

end Sys2Proof.Machine

/-! ## cbc_encrypt and cbc_decrypt -/

namespace Sys2Proof.Machine

open Sys2Proof.Claim

section

variable {E D : Bytes → Bytes} {bs i : Nat} {prev : Bytes} {ps cs : List Bytes}

/-- Block i of the ciphertext is E of plaintext block i XOR the ciphertext block before it (44_cbc.md R109). -/
theorem blockAt_cbcEncryptBlocks (hE : ∀ b, (E b).length = bs) (hprev : prev.length = bs) (hi : i < ps.length) :
    blockAt bs (cbcEncryptBlocks E prev ps) i =
      E (xorBytes ps[i] (blockAt bs (prev ++ cbcEncryptBlocks E prev ps) i)) := by
  induction ps generalizing prev i with
  | nil => simp at hi
  | cons p ps ih =>
    rw [cbcEncryptBlocks]
    cases i with
    | zero => rw [blockAt_append_zero (hE _), blockAt_append_zero hprev, List.getElem_cons_zero]
    | succ i =>
      rw [blockAt_append_succ (hE _), blockAt_append_succ hprev, List.getElem_cons_succ]
      exact ih (hE _) _

theorem length_cbcDecryptBlocks (hD : ∀ b, (D b).length = bs) (hprev : prev.length = bs)
    (hcs : ∀ c ∈ cs, c.length = bs) : (cbcDecryptBlocks D prev cs).length = cs.length * bs := by
  induction cs generalizing prev with
  | nil => simp [cbcDecryptBlocks]
  | cons c cs ih =>
    rw [List.forall_mem_cons] at hcs
    obtain ⟨hc, hcs⟩ := hcs
    simp [cbcDecryptBlocks, ih hc hcs, hD, hprev, Nat.add_mul, Nat.add_comm]

/-- Block i of the plaintext is D of ciphertext block i XOR the ciphertext block before it (44_cbc.md R110). -/
theorem blockAt_cbcDecryptBlocks (hD : ∀ b, (D b).length = bs) (hprev : prev.length = bs)
    (hcs : ∀ c ∈ cs, c.length = bs) (hi : i < cs.length) :
    blockAt bs (cbcDecryptBlocks D prev cs) i = xorBytes (D cs[i]) (blockAt bs (prev ++ cs.flatten) i) := by
  induction cs generalizing prev i with
  | nil => simp at hi
  | cons c cs ih =>
    rw [List.forall_mem_cons] at hcs
    obtain ⟨hc, hcs⟩ := hcs
    have hlen : (xorBytes (D c) prev).length = bs := by simp [hD, hprev]
    rw [cbcDecryptBlocks, List.flatten_cons]
    cases i with
    | zero => rw [blockAt_append_zero hlen, blockAt_append_zero hprev, List.getElem_cons_zero]
    | succ i =>
      rw [blockAt_append_succ hlen, blockAt_append_succ hprev, List.getElem_cons_succ]
      exact ih hc hcs _

/-- When D undoes E on blocks, decrypting the ciphertext blocks gives the plaintext blocks back (44_cbc.md R111 (a)). -/
theorem cbcDecryptBlocks_cbcEncryptBlocks (hE : ∀ b, (E b).length = bs) (hDE : ∀ b, b.length = bs → D (E b) = b)
    (hprev : prev.length = bs) (hps : ∀ p ∈ ps, p.length = bs) :
    cbcDecryptBlocks D prev (splitBlocks bs ps.length (cbcEncryptBlocks E prev ps)) = ps.flatten := by
  induction ps generalizing prev with
  | nil => rfl
  | cons p ps ih =>
    rw [List.forall_mem_cons] at hps
    obtain ⟨hp, hps⟩ := hps
    have hlen : (xorBytes p prev).length = bs := by simp [hp, hprev]
    rw [cbcEncryptBlocks, List.length_cons, splitBlocks_append (hE _), cbcDecryptBlocks, ih (hE _) hps, hDE _ hlen,
      xorBytes_cancel (hp.trans hprev.symm).le, List.flatten_cons]

end

section

variable {E D : Bytes → Bytes} {bs k i : Nat} {p c iv : Bytes}

theorem blockAt_cbcEncrypt (hiv : iv.length = bs) (hE : ∀ b, (E b).length = bs)
    (hi : i < ceilDiv p.length bs) :
    blockAt bs (cbcEncrypt E bs p iv) i =
      E (xorBytes (blockAt bs (zeroPad bs p) i) (blockAt bs (iv ++ cbcEncrypt E bs p iv) i)) := by
  rw [cbcEncrypt, blockAt_cbcEncryptBlocks hE hiv (by rwa [length_splitBlocks]), getElem_splitBlocks]

/-- The blocks of a string of whole blocks have the block's length. -/
theorem length_of_mem_splitBlocks_div (c : Bytes) : ∀ b ∈ splitBlocks bs (c.length / bs) c, b.length = bs :=
  fun _ => length_of_mem_splitBlocks (Nat.div_mul_le_self _ _)

theorem length_cbcDecrypt (hiv : iv.length = bs) (hD : ∀ b, (D b).length = bs) (hc : c.length % bs = 0) :
    (cbcDecrypt D bs c iv).length = c.length := by
  rw [cbcDecrypt, length_cbcDecryptBlocks hD hiv (length_of_mem_splitBlocks_div c), length_splitBlocks,
    Nat.div_mul_cancel (Nat.dvd_of_mod_eq_zero hc)]

theorem blockAt_cbcDecrypt (hiv : iv.length = bs) (hD : ∀ b, (D b).length = bs) (hc : c.length % bs = 0)
    (hi : i < c.length / bs) :
    blockAt bs (cbcDecrypt D bs c iv) i = xorBytes (D (blockAt bs c i)) (blockAt bs (iv ++ c) i) := by
  rw [cbcDecrypt, blockAt_cbcDecryptBlocks hD hiv (length_of_mem_splitBlocks_div c) (by rwa [length_splitBlocks]),
    getElem_splitBlocks, flatten_splitBlocks, Nat.div_mul_cancel (Nat.dvd_of_mod_eq_zero hc), List.take_length]

/-- The CBC law of 44_cbc.md R111 (a): decryption gives the zero-padded plaintext back. -/
theorem cbcDecrypt_cbcEncrypt (hbs : 0 < bs) (hiv : iv.length = bs) (hE : ∀ b, (E b).length = bs)
    (hDE : ∀ b, b.length = bs → D (E b) = b) (p : Bytes) :
    cbcDecrypt D bs (cbcEncrypt E bs p iv) iv = zeroPad bs p := by
  have hps : ∀ b ∈ splitBlocks bs (ceilDiv p.length bs) (zeroPad bs p), b.length = bs :=
    fun _ => length_of_mem_splitBlocks (length_zeroPad hbs p).ge
  have hblocks := cbcDecryptBlocks_cbcEncryptBlocks hE hDE hiv hps
  rw [length_splitBlocks, flatten_splitBlocks, ← length_zeroPad hbs, List.take_length] at hblocks
  rw [cbcDecrypt, length_cbcEncrypt hE, Nat.mul_div_cancel _ hbs, cbcEncrypt, hblocks]

end

/-- Settles O43: the loops' outputs block by block, the chaining value being a block of the IV and the ciphertext. -/
theorem cbcBlocks : Obligations.CbcBlocks := by
  constructor
  case left =>
    intro E bs p iv hbs hiv hE
    refine ⟨by rw [length_cbcEncrypt hE, ceilDiv_eq_div_add hbs], fun i hi => ?_⟩
    have hk : i < ceilDiv p.length bs := Nat.lt_of_mul_lt_mul_right (hi.trans_le (le_ceilDiv_mul hbs _))
    have hblock : (i + 1) * bs ≤ (zeroPad bs p).length := by
      rw [length_zeroPad hbs]
      exact Nat.mul_le_mul_right bs hk
    have hpad : blockAt bs (zeroPad bs p) i = (List.range bs).map fun j => p.getD (i * bs + j) 0 := by
      simp only [blockAt_eq_map_getD hblock, getD_zeroPad]
    rw [← hpad, ← blockAt_append hiv]
    exact blockAt_cbcEncrypt hiv hE hk
  case right =>
    intro D bs k c iv hbs hc hiv hD
    have hmod : c.length % bs = 0 := by rw [hc, Nat.mul_mod_left]
    refine ⟨by rw [length_cbcDecrypt hiv hD hmod, hc], fun i hi => ?_⟩
    rw [← blockAt_append hiv]
    exact blockAt_cbcDecrypt hiv hD hmod (by rwa [hc, Nat.mul_div_cancel _ hbs])

end Sys2Proof.Machine

/-! ## CBC_ENC and CBC_DEC -/

namespace Sys2Proof.Machine

open Sys2Proof.Claim

/-- MSG_BYTES is at most 32768 (00_scope.md R7). -/
theorem State.params_msgBytes_le (s : State) : s.params.msgBytes ≤ 0x8000 := by
  have := s.params.msgUnits.isLt
  rw [Config.Params.msgBytes]
  omega

@[simp] theorem length_regBytes {m : Nat} (reg : Vector Byte m) (n : Nat) : (regBytes reg n).length = n := by
  simp [regBytes]

@[simp] theorem length_msgBytes (s : State) (n : Nat) : (msgBytes s n).length = n := s.length_msgPart n

theorem getD_msgBytes (s : State) (n j : Nat) :
    (msgBytes s n).getD j 0 = if j < n then s.mem.read (0x8000 + j) else 0 := by
  split
  case isTrue h => exact Memory.getD_readBytes s.mem h
  case isFalse h => exact List.getD_eq_default _ _ (by simpa using h)

/-- MSG after a string was stored there. -/
theorem msgBytes_storeMsg {s : State} (hs : s.mem.wf) (m : Bytes) : msgBytes (s.storeMsg m) m.length = m :=
  Memory.readBytes_writeBytes hs msgBase m

theorem read_storeMsg_outside (s : State) {m : Bytes} {a : Nat} (ha : a < 0x8000 ∨ 0x8000 + m.length ≤ a) :
    (s.storeMsg m).mem.read a = s.mem.read a := Memory.read_writeBytes_outside s.mem m ha

/-- A string stored in MSG, byte by byte over all of memory. -/
theorem read_storeMsg {s : State} (hs : s.mem.wf) (m : Bytes) (a : Nat) :
    (s.storeMsg m).mem.read a =
      if 0x8000 ≤ a ∧ a < 0x8000 + m.length then m.getD (a - 0x8000) 0 else s.mem.read a := by
  split
  case isTrue ha =>
    obtain ⟨hlow, hhigh⟩ := ha
    obtain ⟨j, rfl⟩ := Nat.exists_eq_add_of_le hlow
    rw [Nat.add_sub_cancel_left]
    exact Memory.read_writeBytes_inside hs (Nat.lt_of_add_lt_add_left hhigh)
  case isFalse ha => exact read_storeMsg_outside s (by omega)

/-! ### What CBC_ENC writes (44_cbc.md R112) -/

/-- The length of the message padded to whole blocks, which CBC_ENC writes to MSG_LEN. -/
def State.paddedLength (s : State) : Nat := ceilDiv s.msgLen.toNat s.blockBytes * s.blockBytes

/-- The 32 bits of MSG_LEN hold every length that MSG does. -/
theorem State.toNat_msgLen_cbcEncrypted {s : State} (hfit : s.paddedLength ≤ s.params.msgBytes) :
    s.cbcEncrypted.msgLen.toNat = s.paddedLength :=
  Nat.mod_eq_of_lt (hfit.trans_lt (s.params_msgBytes_le.trans_lt (by decide)))

theorem State.read_cbcEncrypted_outside (s : State) {a : Nat} (ha : a < 0x8000 ∨ 0x8000 + s.paddedLength ≤ a) :
    s.cbcEncrypted.mem.read a = s.mem.read a := by
  rw [State.paddedLength, ← s.length_cbcCiphertext] at ha
  exact read_storeMsg_outside s ha

section

variable {s : State} (h : BlockReady s)

include h

theorem BlockReady.blockBytes_pos : 0 < s.blockBytes := by
  have := h.four_le_schedNb
  rw [State.blockBytes]
  omega

theorem BlockReady.cbcCiphertext_eq :
    s.cbcCiphertext = cbcEncrypt s.encrypt s.blockBytes (msgBytes s s.msgLen.toNat) (regBytes s.iv s.blockBytes) :=
  congrArg (cbcEncrypt _ _ _) (regBytes_eq_firstBytes s.iv h.fits).symm

theorem BlockReady.msgBytes_cbcEncrypted (hwf : s.mem.wf) :
    msgBytes s.cbcEncrypted s.paddedLength =
      cbcEncrypt s.encrypt s.blockBytes (msgBytes s s.msgLen.toNat) (regBytes s.iv s.blockBytes) := by
  rw [← h.cbcCiphertext_eq, State.paddedLength, ← s.length_cbcCiphertext]
  exact msgBytes_storeMsg hwf _

theorem BlockReady.exec_cbcEnc (hfit : s.paddedLength ≤ s.params.msgBytes) :
    exec .cbcEnc s = .next (s.cbcEncrypted.complete .noError) := by
  rw [State.paddedLength, State.blockBytes] at hfit
  exact exec_of_passes (firstFailing_eq_none.mpr (by simp [checksOf, h.legal, h.keyed, hfit]))

/-! ### What CBC_DEC writes (44_cbc.md R113) -/

theorem BlockReady.cbcPlaintext_eq :
    s.cbcPlaintext = cbcDecrypt s.decrypt s.blockBytes (msgBytes s s.msgLen.toNat) (regBytes s.iv s.blockBytes) :=
  congrArg (cbcDecrypt _ _ _) (regBytes_eq_firstBytes s.iv h.fits).symm

section

variable (hmod : s.msgLen.toNat % s.blockBytes = 0)

include hmod

theorem BlockReady.length_cbcPlaintext : s.cbcPlaintext.length = s.msgLen.toNat := by
  rw [h.cbcPlaintext_eq, length_cbcDecrypt (bs := s.blockBytes) (length_regBytes _ _) (length_decrypt s)
    (by rwa [length_msgBytes]), length_msgBytes]

theorem BlockReady.msgBytes_cbcDecrypted (hwf : s.mem.wf) :
    msgBytes (s.storeMsg s.cbcPlaintext) s.msgLen.toNat =
      cbcDecrypt s.decrypt s.blockBytes (msgBytes s s.msgLen.toNat) (regBytes s.iv s.blockBytes) := by
  rw [← h.cbcPlaintext_eq, ← h.length_cbcPlaintext hmod]
  exact msgBytes_storeMsg hwf _

theorem BlockReady.exec_cbcDec (hfit : s.msgLen.toNat ≤ s.params.msgBytes) :
    exec .cbcDec s = .next ((s.storeMsg s.cbcPlaintext).complete .noError) := by
  rw [State.blockBytes] at hmod
  exact exec_of_passes (firstFailing_eq_none.mpr (by simp [checksOf, h.legal, h.keyed, hfit, hmod]))

end

/-! ### CBC_DEC after CBC_ENC (44_cbc.md R111 (a)) -/

section

variable (hwf : s.mem.wf) (hfit : s.paddedLength ≤ s.params.msgBytes)

include hwf hfit

/-- CBC_ENC keeps E, D and the IV, so CBC_DEC recovers the padded message. -/
theorem BlockReady.cbcPlaintext_cbcEncrypted :
    s.cbcEncrypted.cbcPlaintext = zeroPad s.blockBytes (msgBytes s s.msgLen.toNat) := by
  have h' : BlockReady s.cbcEncrypted := ⟨h.keyed, h.legal, h.own⟩
  rw [h'.cbcPlaintext_eq, State.toNat_msgLen_cbcEncrypted hfit, h.msgBytes_cbcEncrypted hwf]
  exact cbcDecrypt_cbcEncrypt h.blockBytes_pos (length_regBytes _ _) (length_encrypt s)
    (fun _ => decryptBlock_encryptBlock h.four_le_schedNb _) _

/-- Memory after both commands: the message, its zero pad bytes, and every byte beyond as it was. -/
theorem BlockReady.read_cbcDecrypted_cbcEncrypted (a : Nat) :
    (s.cbcEncrypted.storeMsg s.cbcEncrypted.cbcPlaintext).mem.read a =
      if 0x8000 + s.msgLen.toNat ≤ a ∧ a < 0x8000 + s.paddedLength then 0 else s.mem.read a := by
  have hwf' : s.cbcEncrypted.mem.wf := Memory.wf_writeBytes hwf _ _
  have hle : s.msgLen.toNat ≤ s.paddedLength := le_ceilDiv_mul h.blockBytes_pos _
  rw [read_storeMsg hwf', h.cbcPlaintext_cbcEncrypted hwf hfit, length_zeroPad h.blockBytes_pos, length_msgBytes,
    getD_zeroPad, getD_msgBytes, ← State.paddedLength]
  by_cases hin : 0x8000 ≤ a ∧ a < 0x8000 + s.paddedLength
  · rw [if_pos hin, Nat.add_sub_cancel' hin.1]
    by_cases hmsg : a - 0x8000 < s.msgLen.toNat
    · rw [if_pos hmsg, if_neg (by omega)]
    · rw [if_neg hmsg, if_pos (by omega)]
  · rw [if_neg hin, if_neg (by omega)]
    exact s.read_cbcEncrypted_outside (by omega)

end

end

/-- Settles O44: the ciphertext is as long as the padded message, which MSG and MSG_LEN hold. -/
theorem cbcEncCommand : Obligations.CbcEncCommand := by
  intro s n bs k _ hkey hmem hok hn hbs hk hfit
  have h := hok.blockReady hkey
  obtain ⟨hwf, -⟩ := hmem
  obtain rfl : bs = s.blockBytes := hbs
  obtain rfl : k = ceilDiv n s.blockBytes := hk.trans (ceilDiv_eq_div_add h.blockBytes_pos n).symm
  subst hn
  exact ⟨_, h.exec_cbcEnc hfit, rfl, State.toNat_msgLen_cbcEncrypted hfit, h.msgBytes_cbcEncrypted hwf,
    fun _ => s.read_cbcEncrypted_outside⟩

/-- Settles O45: the plaintext is as long as MSG_LEN, a whole number of blocks. -/
theorem cbcDecCommand : Obligations.CbcDecCommand := by
  intro s n bs _ hkey hmem hok hn hbs hfit hmod
  have h := hok.blockReady hkey
  obtain ⟨hwf, -⟩ := hmem
  obtain rfl : bs = s.blockBytes := hbs
  subst hn
  exact ⟨_, h.exec_cbcDec hmod hfit, rfl, h.msgBytes_cbcDecrypted hmod hwf,
    fun _ ha => read_storeMsg_outside s (h.length_cbcPlaintext hmod ▸ ha)⟩

/-- Settles O46: CBC_DEC writes the padded message, each byte of which is a byte of the message or a zero. -/
theorem cbcRoundTrip : Obligations.CbcRoundTrip := by
  intro s n bs k hkey hmem hok hn hbs hk hfit
  have h := hok.blockReady hkey
  obtain ⟨hwf, -⟩ := hmem
  obtain rfl : bs = s.blockBytes := hbs
  obtain rfl : k = ceilDiv n s.blockBytes := hk.trans (ceilDiv_eq_div_add h.blockBytes_pos n).symm
  subst hn
  have h' : BlockReady (s.cbcEncrypted.complete .noError) := ⟨h.keyed, h.legal, h.own⟩
  have hlen : s.cbcEncrypted.msgLen.toNat = s.paddedLength := State.toNat_msgLen_cbcEncrypted hfit
  have hmod : s.cbcEncrypted.msgLen.toNat % s.blockBytes = 0 := hlen ▸ Nat.mul_mod_left _ _
  have hdec := h'.exec_cbcDec hmod (hlen.trans_le hfit)
  exact ⟨_, (runList_cons _ (h.exec_cbcEnc hfit)).trans (runList_cons _ hdec), rfl,
    h.read_cbcDecrypted_cbcEncrypted hwf hfit⟩

end Sys2Proof.Machine

/-! ## GF(2^128): the blocks as big-endian values -/

namespace Sys2Proof.Machine

open Sys2Proof.Claim

/-! ### The bits of the big-endian value -/

/-- Bit i of the value of a string, the last byte being the least significant (20_memory.md R46). -/
theorem testBit_foldl_bytes (x : Bytes) (i : Nat) :
    (x.foldl (fun v (b : Byte) => 256 * v + b.toNat) 0).testBit i = (x.reverse.getD (i / 8) 0).getLsbD (i % 8) := by
  induction x using List.reverseRecOn generalizing i with
  | nil => simp
  | append_singleton x b ih =>
    rw [List.foldl_concat, List.reverse_concat, Nat.testBit_two_pow_mul_add (i := 8) _ b.isLt]
    split
    case isTrue hi => simp [Nat.div_eq_of_lt hi, Nat.mod_eq_of_lt hi, BitVec.getLsbD]
    case isFalse hi =>
      have hdiv : i / 8 = (i - 8) / 8 + 1 := by omega
      rw [ih, hdiv, List.getD_cons_succ, Nat.mod_eq_sub_mod (not_lt.mp hi)]

section

variable {x y : Bytes}

theorem getD_reverse_block (hx : x.length = 16) {j : Nat} (hj : j < 16) :
    x.reverse.getD j 0 = x.getD (15 - j) 0 := by
  rw [List.getD_reverse j (by omega), hx]

theorem getLsbD_bigEndian (hx : x.length = 16) {i : Nat} (hi : i < 128) :
    (bigEndian x).getLsbD i = (x.getD (15 - i / 8) 0).getLsbD (i % 8) := by
  rw [bigEndian, BitVec.getLsbD_ofNat, testBit_foldl_bytes, getD_reverse_block hx (by omega)]
  simp [hi]

/-- Bit 127 is bit 7 of byte 0 (45_gf128.md R115). -/
theorem msb_bigEndian (hx : x.length = 16) : (bigEndian x).msb = (x.getD 0 0).getLsbD 7 :=
  (BitVec.msb_eq_getLsbD_last _).trans (getLsbD_bigEndian hx (by decide))

/-- A 16-byte block is determined by its value. -/
theorem bigEndian_inj (hx : x.length = 16) (hy : y.length = 16) : bigEndian x = bigEndian y ↔ x = y := by
  refine ⟨fun h => List.ext_getElem (hx.trans hy.symm) fun j hjx hjy => ?_, congrArg _⟩
  refine BitVec.eq_of_getLsbD_eq fun k hk => ?_
  have hi : 8 * (15 - j) + k < 128 := by omega
  have hdiv : 15 - (8 * (15 - j) + k) / 8 = j := by omega
  have hmod : (8 * (15 - j) + k) % 8 = k := by omega
  have hbit := congrArg (·.getLsbD (8 * (15 - j) + k)) h
  simp only [getLsbD_bigEndian hx hi, getLsbD_bigEndian hy hi, hdiv, hmod] at hbit
  rwa [List.getD_eq_getElem _ _ hjx, List.getD_eq_getElem _ _ hjy] at hbit

theorem getD_xorBytes (h : x.length = y.length) (j : Nat) :
    (xorBytes x y).getD j 0 = x.getD j 0 ^^^ y.getD j 0 := by
  by_cases hj : j < y.length <;> simp [xorBytes, List.getD, h, hj]

theorem bigEndian_xorBytes (hx : x.length = 16) (hy : y.length = 16) :
    bigEndian (xorBytes x y) = bigEndian x ^^^ bigEndian y := by
  refine BitVec.eq_of_getLsbD_eq fun i hi => ?_
  rw [BitVec.getLsbD_xor, getLsbD_bigEndian (by simp [hx, hy]) hi, getLsbD_bigEndian hx hi, getLsbD_bigEndian hy hi,
    getD_xorBytes (hx.trans hy.symm), BitVec.getLsbD_xor]

end

theorem bigEndian_zeroBytes : bigEndian (zeroBytes 16) = 0#128 := by decide

/-! ### Multiplication of a value by α and by α + 1 -/

/-- A value times α, reduced (45_gf128.md R115). -/
def timesAlpha (v : BitVec 128) : BitVec 128 := (v <<< 1) ^^^ (if v.msb then 0x87 else 0)

theorem timesAlpha_xor (v w : BitVec 128) : timesAlpha (v ^^^ w) = timesAlpha v ^^^ timesAlpha w := by
  have hreduce : (if (v ^^^ w).msb then 0x87 else 0 : BitVec 128) =
      (if v.msb then 0x87 else 0) ^^^ (if w.msb then 0x87 else 0) := by
    rw [BitVec.msb_xor]
    cases v.msb <;> cases w.msb <;> rfl
  simp only [timesAlpha, hreduce, BitVec.shiftLeft_xor_distrib]
  ac_rfl

/-- Only zero is sent to zero by α: an odd 0x87 cannot be a shifted value, and without it no bit was shifted out. -/
theorem eq_zero_of_timesAlpha {v : BitVec 128} (h : timesAlpha v = 0#128) : v = 0#128 := by
  rw [timesAlpha, BitVec.xor_eq_zero_iff] at h
  cases hmsb : v.msb with
  | true => rw [hmsb, if_pos rfl] at h; bv_omega
  | false =>
    rw [hmsb, if_neg (by decide)] at h
    have hlt := BitVec.msb_eq_false_iff_two_mul_lt.mp hmsb
    bv_omega

theorem eq_zero_of_shiftLeft_one_eq {v : BitVec 128} (h : v <<< 1 = v) : v = 0#128 := by bv_omega

/-- Only zero is kept by α: 0x7d is the one value that its shift and 0x87 give back, and its top bit is 0. -/
theorem eq_zero_of_timesAlpha_eq {v : BitVec 128} (h : timesAlpha v = v) : v = 0#128 := by
  rw [timesAlpha] at h
  cases hmsb : v.msb with
  | true =>
    rw [hmsb, if_pos rfl] at h
    have hfixed : (v ^^^ 0x7d) <<< 1 = v ^^^ 0x7d := by
      nth_rw 2 [← h]
      rw [BitVec.shiftLeft_xor_distrib, BitVec.xor_assoc]
      rfl
    have hv : v = 0x7d := BitVec.xor_eq_zero_iff.mp (eq_zero_of_shiftLeft_one_eq hfixed)
    rw [hv] at hmsb
    contradiction
  | false =>
    rw [hmsb, if_neg (by decide), BitVec.ofNat_eq_ofNat, BitVec.xor_zero] at h
    exact eq_zero_of_shiftLeft_one_eq h

/-- A value times α + 1 (45_gf128.md R116). -/
def timesAlphaSucc (v : BitVec 128) : BitVec 128 := timesAlpha v ^^^ v

theorem timesAlphaSucc_xor (v w : BitVec 128) : timesAlphaSucc (v ^^^ w) = timesAlphaSucc v ^^^ timesAlphaSucc w := by
  simp only [timesAlphaSucc, timesAlpha_xor]
  ac_rfl

theorem eq_zero_of_timesAlphaSucc {v : BitVec 128} (h : timesAlphaSucc v = 0#128) : v = 0#128 :=
  eq_zero_of_timesAlpha_eq (BitVec.xor_eq_zero_iff.mp h)

/-- A map that is linear over XOR and sends only zero to zero is injective. -/
theorem eq_of_linear {f : BitVec 128 → BitVec 128} (hxor : ∀ v w, f (v ^^^ w) = f v ^^^ f w)
    (hzero : ∀ v, f v = 0#128 → v = 0#128) {v w : BitVec 128} (h : f v = f w) : v = w :=
  BitVec.xor_eq_zero_iff.mp (hzero _ (by rw [hxor, h, BitVec.xor_self]))

/-! ### double and triple are these multiplications -/

section

variable {x : Bytes} {i j k : Nat}

/-- Byte j of double: the byte after the last is none, so byte 15 takes no carry, and it alone takes the reduction. -/
theorem getD_gfDouble (hx : x.length = 16) (hj : j < 16) :
    (gfDouble x).getD j 0 = (x.getD j 0 <<< 1 ||| x.getD (j + 1) 0 >>> 7) ^^^
      (if j = 15 ∧ (x.getD 0 0).getLsbD 7 then 0x87 else 0) := by
  have hbyte : (gfDouble x).getD j 0 = if j < 15 then (x.getD j 0 <<< 1) ||| (x.getD (j + 1) 0 >>> 7)
      else (x.getD 15 0 <<< 1) ^^^ (if (x.getD 0 0).getLsbD 7 then 0x87 else 0) := by
    simp [gfDouble, List.getD, hj]
  rcases Nat.lt_or_ge j 15 with hlt | hge
  · rw [hbyte, if_pos hlt, if_neg (hlt.ne ·.1), BitVec.ofNat_eq_ofNat, BitVec.xor_zero]
  · obtain rfl : j = 15 := by omega
    have hcarry : x.getD (15 + 1) 0 = 0 := List.getD_eq_default _ _ hx.le
    rw [hbyte, if_neg (by decide), hcarry]
    simp

/-- A byte shifted left by one, with the top bit of the next byte shifted in. -/
theorem getLsbD_shiftLeft_or_carry (a b : Byte) (hk : k < 8) :
    (a <<< 1 ||| b >>> 7).getLsbD k = if k = 0 then b.getLsbD 7 else a.getLsbD (k - 1) := by
  cases k with
  | zero => simp
  | succ k =>
    have hbeyond : b.getLsbD (7 + (k + 1)) = false := BitVec.getLsbD_of_ge b _ (by omega)
    simp [hk, hbeyond, BitVec.getLsbD_eq_getElem (x := a) (i := k) (by omega)]

/-- Bit i of a block's value shifted left, in the bytes of the block. -/
theorem getLsbD_bigEndian_shiftLeft (hx : x.length = 16) (hi : i < 128) :
    (bigEndian x <<< 1).getLsbD i =
      (x.getD (15 - i / 8) 0 <<< 1 ||| x.getD (15 - i / 8 + 1) 0 >>> 7).getLsbD (i % 8) := by
  rw [getLsbD_shiftLeft_or_carry _ _ (Nat.mod_lt _ (by decide))]
  cases i with
  | zero =>
    have hcarry : x.getD 16 0 = 0 := List.getD_eq_default _ _ hx.le
    rw [Nat.zero_div, Nat.zero_mod, if_pos rfl, hcarry]
    simp
  | succ n =>
    have hn : (bigEndian x <<< 1).getLsbD (n + 1) = (bigEndian x).getLsbD n := by
      rw [BitVec.getLsbD_shiftLeft, Nat.add_sub_cancel]
      simp [hi]
    rw [hn, getLsbD_bigEndian hx (by omega)]
    split
    case isTrue hk =>
      have hdiv : 15 - (n + 1) / 8 + 1 = 15 - n / 8 := by omega
      have hmod : n % 8 = 7 := by omega
      rw [hdiv, hmod]
    case isFalse hk =>
      have hdiv : (n + 1) / 8 = n / 8 := by omega
      have hmod : (n + 1) % 8 - 1 = n % 8 := by omega
      rw [hdiv, hmod]

/-- The reduction lies in the low byte, which is byte 15 (45_gf128.md R115). -/
theorem getLsbD_reduction (top : Bool) (hi : i < 128) :
    (if top then 0x87 else 0 : BitVec 128).getLsbD i =
      (if 15 - i / 8 = 15 ∧ top then 0x87 else 0 : Byte).getLsbD (i % 8) := by
  have hwidth : (if top then 0x87 else 0 : BitVec 128) = (if top then 0x87 else 0 : Byte).setWidth 128 := by
    cases top <;> rfl
  rw [hwidth, BitVec.getLsbD_setWidth]
  rcases Nat.lt_or_ge i 8 with hlt | hge
  · simp [hi, Nat.div_eq_of_lt hlt, Nat.mod_eq_of_lt hlt]
  · have hj : 15 - i / 8 ≠ 15 := by omega
    simp [hj, BitVec.getLsbD_of_ge _ _ hge]

theorem bigEndian_gfDouble (hx : x.length = 16) : bigEndian (gfDouble x) = timesAlpha (bigEndian x) := by
  refine BitVec.eq_of_getLsbD_eq fun i hi => ?_
  rw [getLsbD_bigEndian (length_gfDouble x) hi, getD_gfDouble hx (by omega), timesAlpha, BitVec.getLsbD_xor,
    BitVec.getLsbD_xor, getLsbD_bigEndian_shiftLeft hx hi, msb_bigEndian hx, getLsbD_reduction _ hi]

theorem bigEndian_gfTriple (hx : x.length = 16) : bigEndian (gfTriple x) = timesAlphaSucc (bigEndian x) := by
  rw [gfTriple, bigEndian_xorBytes (length_gfDouble x) hx, bigEndian_gfDouble hx, timesAlphaSucc]

end

/-- Settles O41: double is multiplication by α, bit by bit, and triple adds the block. -/
theorem doubleIsBigEndianShift : Obligations.DoubleIsBigEndianShift := fun x hx =>
  ⟨length_gfDouble x, bigEndian_gfDouble hx, bigEndian_xorBytes (length_gfDouble x) hx⟩

/-! ### The laws of 45_gf128.md R117 -/

section

variable {x y : Bytes} (hx : x.length = 16) (hy : y.length = 16)

include hx

theorem length_gfTriple_block : (gfTriple x).length = 16 := by rw [length_gfTriple, hx, min_self]

theorem gfTriple_ne (hne : x ≠ zeroBytes 16) : gfTriple x ≠ x := fun h => by
  have hval := congrArg bigEndian h
  rw [bigEndian_gfTriple hx] at hval
  have hzero := (BitVec.xor_left_inj _).mp (hval.trans BitVec.zero_xor.symm)
  exact hne ((bigEndian_inj hx rfl).mp ((eq_zero_of_timesAlpha hzero).trans bigEndian_zeroBytes.symm))

include hy

theorem length_xorBytes_block : (xorBytes x y).length = 16 := by rw [length_xorBytes, hx, hy, min_self]

theorem gfDouble_xorBytes : gfDouble (xorBytes x y) = xorBytes (gfDouble x) (gfDouble y) := by
  have hdd := length_xorBytes_block (length_gfDouble x) (length_gfDouble y)
  rw [← bigEndian_inj (length_gfDouble _) hdd, bigEndian_gfDouble (length_xorBytes_block hx hy),
    bigEndian_xorBytes hx hy, bigEndian_xorBytes (length_gfDouble x) (length_gfDouble y), bigEndian_gfDouble hx,
    bigEndian_gfDouble hy, timesAlpha_xor]

theorem gfTriple_xorBytes : gfTriple (xorBytes x y) = xorBytes (gfTriple x) (gfTriple y) := by
  have hxy := length_xorBytes_block hx hy
  have htx := length_gfTriple_block hx
  have hty := length_gfTriple_block hy
  rw [← bigEndian_inj (length_gfTriple_block hxy) (length_xorBytes_block htx hty), bigEndian_gfTriple hxy,
    bigEndian_xorBytes hx hy, bigEndian_xorBytes htx hty, bigEndian_gfTriple hx, bigEndian_gfTriple hy,
    timesAlphaSucc_xor]

theorem gfDouble_injective (h : gfDouble x = gfDouble y) : x = y := by
  have hval := congrArg bigEndian h
  rw [bigEndian_gfDouble hx, bigEndian_gfDouble hy] at hval
  exact (bigEndian_inj hx hy).mp (eq_of_linear timesAlpha_xor (fun _ => eq_zero_of_timesAlpha) hval)

theorem gfTriple_injective (h : gfTriple x = gfTriple y) : x = y := by
  have hval := congrArg bigEndian h
  rw [bigEndian_gfTriple hx, bigEndian_gfTriple hy] at hval
  exact (bigEndian_inj hx hy).mp (eq_of_linear timesAlphaSucc_xor (fun _ => eq_zero_of_timesAlphaSucc) hval)

end

theorem gfTriple_gfDouble {x : Bytes} (hx : x.length = 16) : gfTriple (gfDouble x) = gfDouble (gfTriple x) :=
  (gfDouble_xorBytes (length_gfDouble x) hx).symm

/-- Settles O42: on values double and triple multiply by α and α + 1, which are linear with kernel zero. -/
theorem doubleAndTripleLaws : Obligations.DoubleAndTripleLaws := fun x y hx hy =>
  ⟨gfTriple_gfDouble hx, gfDouble_xorBytes hx hy,
    (congrArg gfTriple (gfTriple_gfDouble hx)).trans (gfTriple_gfDouble (length_gfTriple_block hx)),
    gfTriple_xorBytes hx hy, by decide, by decide, gfDouble_injective hx hy, gfTriple_injective hx hy, gfTriple_ne hx⟩

/-! ### The commands -/

theorem regBytes_overwrite {m n : Nat} (reg : Vector Byte m) {st : Bytes} (hst : st.length = n) (h : n ≤ m) :
    regBytes (overwrite reg st) n = st := by
  subst hst
  rw [regBytes_eq_firstBytes _ h, firstBytes_overwrite reg h]

/-- A command with no check that maps BLK[0..16] keeps the bytes beyond (45_gf128.md R118, R119). -/
theorem exec_mapBlk_block {s : State} {i : Instr} {f : Bytes → Bytes} (hc : checksOf s i = [])
    (he : effectOf s i = (s.mapBlk 4 f, .noError)) (hf : ∀ x, x.length = 16 → (f x).length = 16) :
    ∃ t, exec i s = .next t ∧ t = { succeeded s with blk := t.blk } ∧
      regBytes t.blk 16 = f (regBytes s.blk 16) ∧ ∀ j, 16 ≤ j → byteOf t.blk j = byteOf s.blk j := by
  have hlen : (f (firstBytes s.blk 16)).length = 16 := hf _ (length_firstBytes s.blk 16)
  rw [regBytes_eq_firstBytes s.blk (by decide)]
  exact ⟨_, exec_mapBlk (hc ▸ rfl) he, rfl, regBytes_overwrite s.blk hlen (by decide),
    fun _ hj => byteOf_overwrite_of_le s.blk (hlen.trans_le hj)⟩

/-- Settles O40: neither command has a check, and both functions answer 16 bytes. -/
theorem gf128Commands : Obligations.Gf128Commands := fun _ =>
  ⟨exec_mapBlk_block rfl rfl fun x _ => length_gfDouble x, exec_mapBlk_block rfl rfl fun _ => length_gfTriple_block⟩

end Sys2Proof.Machine

/-! ## A canonical memory is determined by what it reads -/

namespace Sys2Proof.Machine

/-- A canonical memory lists exactly the bytes that do not read their reset value (10_state.md R32, R33). -/
theorem Memory.mem_iff_read {m : Memory} (h : m.wf) {a : Nat} {v : Byte} :
    (a, v) ∈ m ↔ v ≠ Memory.unlisted ∧ m.read a = v := by
  induction m with
  | nil => simp [Memory.read, eq_comm]
  | cons d m ih =>
    obtain ⟨k, u⟩ := d
    obtain ⟨hsorted, hlisted⟩ := h
    obtain ⟨hk, hsorted⟩ := List.pairwise_cons.mp hsorted
    obtain ⟨hu, hlisted⟩ := List.forall_mem_cons.mp hlisted
    rw [List.mem_cons, ih ⟨hsorted, hlisted⟩, Memory.read]
    by_cases ha : a = k
    · have hbeyond : Memory.read m a = Memory.unlisted := Memory.read_of_lt (ha ▸ hk)
      grind
    · simp [ha]

/-- Two canonical memories that read alike are the same list (log 11). -/
theorem Memory.ext_read {m m' : Memory} (h : m.wf) (h' : m'.wf) (hread : ∀ a, m.read a = m'.read a) : m = m' := by
  have : Std.Irrefl fun c d : Host.Cell => c.1 < d.1 := ⟨fun _ => Nat.lt_irrefl _⟩
  have : Std.Antisymm fun c d : Host.Cell => c.1 < d.1 := ⟨fun _ _ hcd hdc => absurd hcd hdc.asymm⟩
  refine h.1.eq_of_mem_iff h'.1 fun ⟨a, v⟩ => ?_
  rw [Memory.mem_iff_read h, Memory.mem_iff_read h', hread]

end Sys2Proof.Machine

/-! ## Offset and checksum after a run of blocks -/

namespace Sys2Proof.Machine

open Sys2Proof.Claim

theorem splitBlocks_eq_map_range (bs k : Nat) (s : Bytes) :
    splitBlocks bs k s = (List.range k).map (blockAt bs s) :=
  List.ext_getElem (by simp) fun i hi _ => by simp [getElem_splitBlocks hi]

/-- Block i of a string of blocks of 16 bytes, written with the offsets of 46_ocb2_pmac.md R121. -/
theorem blockAt_sixteen (s : Bytes) (i : Nat) : blockAt 16 s i = slice s (16 * i) (16 * i + 16) := by
  rw [blockAt, Nat.succ_mul, Nat.mul_comm]

/-- The block at `i` of blocks of one length written one after the other. -/
theorem blockAt_flatten_append {bs i : Nat} {ps : List Bytes} (hps : ∀ p ∈ ps, p.length = bs) (hi : i < ps.length)
    (t : Bytes) : blockAt bs (ps.flatten ++ t) i = ps[i] := by
  induction ps generalizing i with
  | nil => simp at hi
  | cons p ps ih =>
    obtain ⟨hp, hps⟩ := List.forall_mem_cons.mp hps
    rw [List.flatten_cons, List.append_assoc]
    cases i with
    | zero => exact blockAt_append_zero hp _
    | succ i =>
      rw [blockAt_append_succ hp]
      exact ih hps _

theorem xorAll_map_range_succ (f : Nat → Bytes) (k : Nat) :
    xorAll ((List.range (k + 1)).map f) = xorBytes (xorAll ((List.range k).map f)) (f k) := by
  simp [xorAll, List.range_succ]

theorem gfDouble_iterate_pred {m : Nat} (hm : 0 < m) (x : Bytes) : gfDouble (gfDouble^[m - 1] x) = gfDouble^[m] x := by
  rw [← Function.iterate_succ_apply' gfDouble, Nat.succ_eq_add_one, Nat.sub_add_cancel hm]

/-- After k blocks PMAC's offset is doubled k times, and E of each block under its offset is in the checksum
(46_ocb2_pmac.md R121). -/
theorem foldl_pmacStep (E : Bytes → Bytes) (base : Bytes) (h : Nat → Bytes) (k : Nat) :
    ((List.range k).map h).foldl (pmacStep E) ⟨base, zeroBytes 16⟩ =
      ⟨gfDouble^[k] base, xorAll ((List.range k).map fun i => E (xorBytes (gfDouble^[i + 1] base) (h i)))⟩ := by
  induction k with
  | zero => rfl
  | succ k ih =>
    rw [List.range_succ, List.map_append, List.foldl_append, ih, ← List.range_succ, xorAll_map_range_succ,
      Function.iterate_succ_apply']
    rfl

/-- `L ⊕ f(L ⊕ b)`, what OCB2 makes of a full block under the offset L, with E for f or with D (46_ocb2_pmac.md R122,
R123). -/
def xorAround (f : Bytes → Bytes) (l b : Bytes) : Bytes := xorBytes l (f (xorBytes l b))

/-- The running values of OCB2 after k full blocks, from the plaintext blocks and the blocks put out. -/
def ocbAccAt (base : Bytes) (plain out : Nat → Bytes) (k : Nat) : OcbAcc :=
  ⟨gfDouble^[k] base, xorAll ((List.range k).map plain), ((List.range k).map out).flatten⟩

theorem ocbAccAt_succ (base : Bytes) (plain out : Nat → Bytes) (k : Nat) :
    ocbAccAt base plain out (k + 1) =
      ⟨gfDouble (gfDouble^[k] base), xorBytes (xorAll ((List.range k).map plain)) (plain k),
        ((List.range k).map out).flatten ++ out k⟩ := by
  rw [ocbAccAt, xorAll_map_range_succ, Function.iterate_succ_apply', List.range_succ]
  simp

section

variable {base : Bytes} {plain out : Nat → Bytes} {k i : Nat} (hout : ∀ i, (out i).length = 16)

include hout

theorem length_ocbAccAt_out (plain : Nat → Bytes) : (ocbAccAt base plain out k).out.length = 16 * k := by
  simp [ocbAccAt, List.length_flatten, Function.comp_def, hout, Nat.mul_comm]

theorem blockAt_ocbAccAt_out (hi : i < k) (t : Bytes) :
    blockAt 16 ((ocbAccAt base plain out k).out ++ t) i = out i := by
  rw [ocbAccAt, blockAt_flatten_append (by simp [hout]) (by simpa using hi)]
  simp

end

theorem foldl_ocbEncStep (E : Bytes → Bytes) (base : Bytes) (p : Nat → Bytes) (k : Nat) :
    ((List.range k).map p).foldl (ocbEncStep E) ⟨base, zeroBytes 16, []⟩ =
      ocbAccAt base p (fun i => xorAround E (gfDouble^[i + 1] base) (p i)) k := by
  induction k with
  | zero => rfl
  | succ k ih =>
    rw [List.range_succ, List.map_append, List.foldl_append, ih, ocbAccAt_succ, Function.iterate_succ_apply']
    rfl

theorem foldl_ocbDecStep (D : Bytes → Bytes) (base : Bytes) (c : Nat → Bytes) (k : Nat) :
    ((List.range k).map c).foldl (ocbDecStep D) ⟨base, zeroBytes 16, []⟩ =
      ocbAccAt base (fun i => xorAround D (gfDouble^[i + 1] base) (c i))
        (fun i => xorAround D (gfDouble^[i + 1] base) (c i)) k := by
  induction k with
  | zero => rfl
  | succ k ih =>
    rw [List.range_succ, List.map_append, List.foldl_append, ih, ocbAccAt_succ, Function.iterate_succ_apply']
    rfl

end Sys2Proof.Machine

/-! ## pmac and ocb_encrypt -/

namespace Sys2Proof.Machine

open Sys2Proof.Claim

theorem length_pmacOf {E : Bytes → Bytes} (hE : ∀ x, (E x).length = 16) (header : Bytes) :
    (pmacOf E header).length = 16 := by
  rw [pmacOf, pmacLast]
  split <;> exact hE _

/-- Settles O47: the fold over the blocks before the last, which then is the rest of the header. -/
theorem pmacIsItsSum : Obligations.PmacIsItsSum := by
  intro E header m b hE hm hb1 hb16 hlen
  refine ⟨_, _, _, rfl, rfl, rfl, ?_⟩
  have hfull : ceilDiv header.length 16 - 1 = m - 1 := by
    rw [ceilDiv]
    omega
  have hdrop : (header.drop (16 * (m - 1))).length = b := by
    rw [List.length_drop]
    omega
  have hlast : slice header (16 * (m - 1)) (16 * (m - 1) + b) = header.drop (16 * (m - 1)) := by
    rw [slice, Nat.add_sub_cancel_left]
    exact List.take_of_length_le hdrop.le
  rw [pmacOf, hfull, splitBlocks_eq_map_range, foldl_pmacStep, pmacLast, hdrop, hlast, gfDouble_iterate_pred hm]
  simp only [blockAt_sixteen, List.append_assoc, List.singleton_append]
  split <;> rfl

/-! ### The blocks of ocb_encrypt -/

/-- The running values of ocb_encrypt before the last block (46_ocb2_pmac.md R122). -/
def ocbSealAcc (E : Bytes → Bytes) (p iv : Bytes) : OcbAcc :=
  ocbAccAt (E iv) (blockAt 16 p) (fun i => xorAround E (gfDouble^[i + 1] (E iv)) (blockAt 16 p i)) (ocbFullBlocks p)

/-- The last block, the only one that may be short (46_ocb2_pmac.md R122). -/
def ocbLast (p : Bytes) : Bytes := p.drop (16 * ocbFullBlocks p)

theorem ocbEncrypt_eq (E : Bytes → Bytes) (header p iv : Bytes) :
    ocbEncrypt E header p iv =
      ((ocbSealAcc E p iv).out ++
          xorBytes (ocbLast p) ((ocbPad E (ocbSealAcc E p iv) (ocbLast p).length).take (ocbLast p).length),
        ocbTag E (ocbSealAcc E p iv) (ocbLast p) (ocbPad E (ocbSealAcc E p iv) (ocbLast p).length) header) := by
  rw [ocbSealAcc, ← foldl_ocbEncStep, ← splitBlocks_eq_map_range]
  rfl

/-- m blocks of which the last has b bytes: m - 1 before the last, and an empty message is one empty block
(46_ocb2_pmac.md R122). -/
theorem ocbFullBlocks_of_length {p : Bytes} {m b : Nat} (hm : 0 < m) (hb : b ≤ 16) (hb0 : b = 0 → m = 1)
    (hlen : p.length = 16 * (m - 1) + b) : ocbFullBlocks p = m - 1 := by
  rw [ocbFullBlocks, ceilDiv]
  omega

theorem ocbFullBlocks_congr {p c : Bytes} (h : c.length = p.length) : ocbFullBlocks c = ocbFullBlocks p := by
  rw [ocbFullBlocks, ocbFullBlocks, h]

theorem length_ocbLast_le (p : Bytes) : (ocbLast p).length ≤ 16 := by
  rw [ocbLast, List.length_drop, ocbFullBlocks, ceilDiv]
  omega

theorem length_blockAt {bs i : Nat} {s : Bytes} (h : (i + 1) * bs ≤ s.length) : (blockAt bs s i).length = bs := by
  simp [blockAt_eq_map_getD h]

theorem length_blockAt_of_lt_ocbFullBlocks {p : Bytes} {i : Nat} (hi : i < ocbFullBlocks p) :
    (blockAt 16 p i).length = 16 := by
  have := ocbFullBlocks_le p
  exact length_blockAt (by omega)

theorem length_gfDouble_iterate {x : Bytes} (hx : x.length = 16) (i : Nat) : (gfDouble^[i] x).length = 16 := by
  cases i with
  | zero => exact hx
  | succ i =>
    rw [Function.iterate_succ_apply']
    exact length_gfDouble _

theorem length_xorAround_iterate {f : Bytes → Bytes} (hf : ∀ x, (f x).length = 16) {base : Bytes}
    (hbase : base.length = 16) (i : Nat) (b : Bytes) : (xorAround f (gfDouble^[i] base) b).length = 16 :=
  length_xorBytes_block (length_gfDouble_iterate hbase i) (hf _)

section

variable {E : Bytes → Bytes} (hE : ∀ x, (E x).length = 16)

include hE

theorem length_ocbSealAcc_out (p iv : Bytes) : (ocbSealAcc E p iv).out.length = 16 * ocbFullBlocks p :=
  length_ocbAccAt_out (fun _ => length_xorAround_iterate hE (hE iv) _ _) _

/-- The last block is no longer than the pad, so XOR with the pad keeps its length. -/
theorem length_xorBytes_ocbPad (acc : OcbAcc) (p : Bytes) :
    (xorBytes (ocbLast p) ((ocbPad E acc (ocbLast p).length).take (ocbLast p).length)).length = (ocbLast p).length := by
  rw [length_xorBytes, List.length_take, ocbPad, hE, min_eq_left (length_ocbLast_le p), min_self]

theorem length_ocbEncrypt (header p iv : Bytes) : (ocbEncrypt E header p iv).1.length = p.length := by
  have := ocbFullBlocks_le p
  rw [ocbEncrypt_eq, List.length_append, length_ocbSealAcc_out hE, length_xorBytes_ocbPad hE, ocbLast, List.length_drop]
  omega

theorem length_ocbTag (acc : OcbAcc) (last pad header : Bytes) : (ocbTag E acc last pad header).length = 16 := by
  rw [ocbTag]
  split
  · exact hE _
  · exact length_xorBytes_block (hE _) (length_pmacOf hE header)

/-- Full block i of the ciphertext (46_ocb2_pmac.md R122). -/
theorem blockAt_ocbEncrypt (header iv : Bytes) {p : Bytes} {i : Nat} (hi : i < ocbFullBlocks p) :
    blockAt 16 (ocbEncrypt E header p iv).1 i = xorAround E (gfDouble^[i + 1] (E iv)) (blockAt 16 p i) := by
  rw [ocbEncrypt_eq]
  exact blockAt_ocbAccAt_out (fun _ => length_xorAround_iterate hE (hE iv) _ _) hi _

/-- The last block of the ciphertext (46_ocb2_pmac.md R122). -/
theorem ocbLast_ocbEncrypt (header p iv : Bytes) :
    ocbLast (ocbEncrypt E header p iv).1 =
      xorBytes (ocbLast p) ((ocbPad E (ocbSealAcc E p iv) (ocbLast p).length).take (ocbLast p).length) := by
  rw [ocbLast, ocbFullBlocks_congr (length_ocbEncrypt hE header p iv), ocbEncrypt_eq]
  exact List.drop_left' (length_ocbSealAcc_out hE p iv)

end

/-- Settles O48: the ciphertext's blocks, its rest, and the tag over the offset and the checksum of m - 1 blocks. -/
theorem ocbEncryptBlocks : Obligations.OcbEncryptBlocks := by
  intro E header p iv m b hE hm hb hb0 hlen
  have hfull := ocbFullBlocks_of_length hm hb hb0 hlen
  have hclen := length_ocbEncrypt hE header p iv
  have hrest (c : Bytes) (hc : c.length = p.length) : slice c (16 * (m - 1)) p.length = ocbLast c := by
    rw [slice, ocbLast, ocbFullBlocks_congr hc, hfull]
    exact List.take_of_length_le (by simp [hc])
  have hlast := hrest p rfl
  have hblast : (ocbLast p).length = b := by
    rw [ocbLast, hfull, List.length_drop]
    omega
  have hoffset : gfDouble (ocbSealAcc E p iv).offset = gfDouble^[m] (E iv) := by
    rw [ocbSealAcc, ocbAccAt, hfull, gfDouble_iterate_pred hm]
  have hchecksum : (ocbSealAcc E p iv).checksum =
      xorAll ((List.range (m - 1)).map fun i => slice p (16 * i) (16 * i + 16)) := by
    rw [ocbSealAcc, ocbAccAt, hfull]
    exact congrArg xorAll (List.map_congr_left fun i _ => blockAt_sixteen p i)
  refine ⟨_, _, _, _, rfl, rfl, rfl, rfl, hclen, fun i hi => ?block, ?rest, ?tag⟩
  case block =>
    rw [← hfull] at hi
    rw [← blockAt_sixteen, ← blockAt_sixteen]
    exact blockAt_ocbEncrypt hE header iv hi
  case rest => rw [hrest _ hclen, ocbLast_ocbEncrypt hE, hblast, ocbPad, hoffset, ← hlen, hlast]
  case tag =>
    simp only [ocbEncrypt_eq, ocbTag, ocbPad, List.length_eq_zero_iff, hblast, hoffset, hchecksum, ← hlen, hlast]

/-! ### ocb_decrypt -/

/-- The running values of ocb_decrypt before the last block (46_ocb2_pmac.md R123). -/
def ocbOpenAcc (E D : Bytes → Bytes) (c iv : Bytes) : OcbAcc :=
  ocbAccAt (E iv) (fun i => xorAround D (gfDouble^[i + 1] (E iv)) (blockAt 16 c i))
    (fun i => xorAround D (gfDouble^[i + 1] (E iv)) (blockAt 16 c i)) (ocbFullBlocks c)

/-- The last block of the plaintext that ocb_decrypt recovers (46_ocb2_pmac.md R123). -/
def ocbOpenLast (E D : Bytes → Bytes) (c iv : Bytes) : Bytes :=
  xorBytes (ocbLast c) ((ocbPad E (ocbOpenAcc E D c iv) (ocbLast c).length).take (ocbLast c).length)

theorem ocbDecrypt_eq (E D : Bytes → Bytes) (header c iv : Bytes) :
    ocbDecrypt E D header c iv =
      ((ocbOpenAcc E D c iv).out ++ ocbOpenLast E D c iv,
        ocbTag E (ocbOpenAcc E D c iv) (ocbOpenLast E D c iv)
          (ocbPad E (ocbOpenAcc E D c iv) (ocbLast c).length) header) := by
  rw [ocbOpenLast, ocbOpenAcc, ← foldl_ocbDecStep, ← splitBlocks_eq_map_range]
  rfl

theorem length_ocbDecrypt {E D : Bytes → Bytes} (hE : ∀ x, (E x).length = 16) (hD : ∀ x, (D x).length = 16)
    (header c iv : Bytes) : (ocbDecrypt E D header c iv).1.length = c.length := by
  have hout : (ocbOpenAcc E D c iv).out.length = 16 * ocbFullBlocks c :=
    length_ocbAccAt_out (fun _ => length_xorAround_iterate hD (hE iv) _ _) _
  have := ocbFullBlocks_le c
  rw [ocbDecrypt_eq, List.length_append, hout, ocbOpenLast, length_xorBytes_ocbPad hE, ocbLast, List.length_drop]
  omega

/-! ### ocb_decrypt after ocb_encrypt (46_ocb2_pmac.md R124 (a)) -/

theorem xorBytes_cancel_left {s t : Bytes} (h : s.length ≤ t.length) : xorBytes t (xorBytes t s) = s := by
  rw [xorBytes_comm t s, xorBytes_comm t, xorBytes_cancel h]

theorem ocbAccAt_congr {base : Bytes} {plain plain' out out' : Nat → Bytes} {k : Nat}
    (hplain : ∀ i < k, plain i = plain' i) (hout : ∀ i < k, out i = out' i) :
    ocbAccAt base plain out k = ocbAccAt base plain' out' k := by
  have hp := List.map_congr_left fun i hi => hplain i (List.mem_range.mp hi)
  have ho := List.map_congr_left fun i hi => hout i (List.mem_range.mp hi)
  rw [ocbAccAt, ocbAccAt, hp, ho]

section

variable {E D : Bytes → Bytes} (hE : ∀ x, (E x).length = 16) (hDE : ∀ x, x.length = 16 → D (E x) = x)

include hE hDE

theorem xorAround_xorAround {l b : Bytes} (hl : l.length = 16) (hb : b.length = 16) :
    xorAround D l (xorAround E l b) = b := by
  have hlb : (xorBytes l b).length = 16 := length_xorBytes_block hl hb
  rw [xorAround, xorAround, xorBytes_cancel_left ((hE _).trans hl.symm).le, hDE _ hlb,
    xorBytes_cancel_left (hb.trans hl.symm).le]

/-- Decrypting the full blocks recovers them, with the offset and the checksum of the encryption. -/
theorem ocbOpenAcc_ocbEncrypt (header p iv : Bytes) :
    ocbOpenAcc E D (ocbEncrypt E header p iv).1 iv =
      { ocbSealAcc E p iv with out := p.take (16 * ocbFullBlocks p) } := by
  have hplain : ∀ i < ocbFullBlocks p,
      xorAround D (gfDouble^[i + 1] (E iv)) (blockAt 16 (ocbEncrypt E header p iv).1 i) = blockAt 16 p i := by
    intro i hi
    rw [blockAt_ocbEncrypt hE header iv hi]
    exact xorAround_xorAround hE hDE (length_gfDouble_iterate (hE iv) _) (length_blockAt_of_lt_ocbFullBlocks hi)
  rw [ocbOpenAcc, ocbFullBlocks_congr (length_ocbEncrypt hE header p iv), ocbAccAt_congr hplain hplain,
    Nat.mul_comm, ← flatten_splitBlocks, splitBlocks_eq_map_range]
  rfl

theorem ocbOpenLast_ocbEncrypt (header p iv : Bytes) :
    ocbOpenLast E D (ocbEncrypt E header p iv).1 iv = ocbLast p := by
  have hpad : (ocbLast p).length ≤
      ((ocbPad E (ocbSealAcc E p iv) (ocbLast p).length).take (ocbLast p).length).length := by
    rw [List.length_take, ocbPad, hE, min_eq_left (length_ocbLast_le p)]
  rw [ocbOpenLast, ocbOpenAcc_ocbEncrypt hE hDE, ocbLast_ocbEncrypt hE, length_xorBytes_ocbPad hE]
  exact xorBytes_cancel hpad

/-- The OCB2 law of 46_ocb2_pmac.md R124 (a): decryption gives the message back and recomputes the tag. -/
theorem ocbDecrypt_ocbEncrypt (header p iv : Bytes) :
    ocbDecrypt E D header (ocbEncrypt E header p iv).1 iv = (p, (ocbEncrypt E header p iv).2) := by
  rw [ocbDecrypt_eq, ocbOpenLast_ocbEncrypt hE hDE, ocbOpenAcc_ocbEncrypt hE hDE]
  refine Prod.ext (List.take_append_drop _ p) ?_
  rw [ocbLast_ocbEncrypt hE, length_xorBytes_ocbPad hE, ocbEncrypt_eq]
  rfl

end

end Sys2Proof.Machine

/-! ## PMAC, OCB_ENC and OCB_DEC -/

namespace Sys2Proof.Machine

open Sys2Proof.Claim

/-- The tag register is 16 bytes long, and a comparison with TAG is one with all of it (46_ocb2_pmac.md R127). -/
theorem regBytes_eq_toList {m : Nat} (reg : Vector Byte m) : regBytes reg m = reg.toList := by
  rw [regBytes_eq_firstBytes reg le_rfl]
  exact List.take_of_length_le reg.length_toList.le

/-- Storing back the bytes that stood in MSG undoes a store of the same length. -/
theorem mem_storeMsg_msgBytes {s : State} (hs : s.mem.wf) {m : Bytes} {n : Nat} (hm : m.length = n) :
    ((s.storeMsg m).storeMsg (msgBytes s n)).mem = s.mem := by
  have hs' : (s.storeMsg m).mem.wf := Memory.wf_writeBytes hs _ _
  refine Memory.ext_read (Memory.wf_writeBytes hs' _ _) hs fun a => ?_
  rw [read_storeMsg hs', length_msgBytes]
  split
  case isTrue ha =>
    obtain ⟨hlow, hhigh⟩ := ha
    rw [getD_msgBytes, Nat.add_sub_cancel' hlow, if_pos (by omega)]
  case isFalse ha => exact read_storeMsg_outside s (by omega)

/-- AD lies below MSG in the window (20_memory.md R47). -/
theorem adBytes_storeMsg {s : State} {n : Nat} (hn : n ≤ s.params.adBytes) (m : Bytes) :
    adBytes (s.storeMsg m) n = adBytes s n := by
  have hunits := s.params.adUnits.isLt
  rw [Config.Params.adBytes] at hn
  exact Memory.readBytes_congr (a := adBase) fun j hj => read_storeMsg_outside s (.inl (by rw [adBase]; omega))

/-- At NB = 4 the schedule's block is 16 bytes, the block of PMAC and OCB2 (46_ocb2_pmac.md R120). -/
theorem BlockReady.schedNb_four {s : State} (h : BlockReady s) (hnb : s.nb = 4) : 4 * s.schedNb = 16 := by
  rw [h.schedNb_eq, hnb]
  rfl

/-- Settles O49: the checks pass, and pmac answers the 16 bytes of TAG. -/
theorem pmacCommand : Obligations.PmacCommand := by
  intro s hnb hkey hok hfit hne
  have hpass : firstFailing (checksOf s .pmac) = none :=
    firstFailing_eq_none.mpr (by simpa [checksOf, hnb, hkey, hfit] using hne)
  have hE (x : Bytes) := (length_encrypt s x).trans ((hok.blockReady hkey).schedNb_four hnb)
  exact ⟨_, exec_of_passes hpass, rfl, regBytes_overwrite s.tag (length_pmacOf hE s.header) le_rfl⟩

/-- What OCB_ENC and OCB_DEC check: NB = 4, an expanded key, and lengths that fit (46_ocb2_pmac.md R126, R127). -/
structure OcbReady (s : State) : Prop extends BlockReady s where
  nbFour  : s.nb = 4
  msgFits : s.msgLen.toNat ≤ s.params.msgBytes
  adFits  : s.adLen.toNat ≤ s.params.adBytes

/-- The sealed message over MSG and its tag in TAG, what OCB_ENC writes (46_ocb2_pmac.md R126). -/
def State.storeSealed (s : State) (sealed : Bytes × Bytes) : State := (s.storeMsg sealed.1).storeTag sealed.2

theorem State.regBytes_tag_storeSealed (s : State) {sealed : Bytes × Bytes} (htag : sealed.2.length = 16)
    (e : ErrorCode) : regBytes ((s.storeSealed sealed).complete e).tag 16 = sealed.2 :=
  regBytes_overwrite s.tag htag le_rfl

theorem State.msgBytes_storeSealed {s : State} (hwf : s.mem.wf) {sealed : Bytes × Bytes} {n : Nat}
    (hlen : sealed.1.length = n) (e : ErrorCode) : msgBytes ((s.storeSealed sealed).complete e) n = sealed.1 := by
  subst hlen
  exact msgBytes_storeMsg hwf _

/-- Storing the message back over the ciphertext leaves only the tag of what OCB_ENC wrote. -/
theorem State.storeMsg_storeSealed {s : State} (hwf : s.mem.wf) {sealed : Bytes × Bytes} {n : Nat}
    (hlen : sealed.1.length = n) (e : ErrorCode) :
    ((s.storeSealed sealed).complete e).storeMsg (msgBytes s n) = (s.storeTag sealed.2).complete e :=
  congrArg (fun m => { (s.storeTag sealed.2).complete e with mem := m }) (mem_storeMsg_msgBytes hwf hlen)

theorem State.ocbSealed_eq (s : State) :
    s.ocbSealed =
      ocbEncrypt s.encrypt (adBytes s s.adLen.toNat) (msgBytes s s.msgLen.toNat) (regBytes s.iv 16) := by
  rw [regBytes_eq_firstBytes s.iv (by decide)]
  rfl

theorem State.ocbOpened_eq (s : State) :
    s.ocbOpened =
      ocbDecrypt s.encrypt s.decrypt (adBytes s s.adLen.toNat) (msgBytes s s.msgLen.toNat) (regBytes s.iv 16) := by
  rw [regBytes_eq_firstBytes s.iv (by decide)]
  rfl

section

variable {s : State} (h : OcbReady s)

include h

theorem OcbReady.length_encrypt (x : Bytes) : (s.encrypt x).length = 16 :=
  (Machine.length_encrypt s x).trans (h.schedNb_four h.nbFour)

theorem OcbReady.length_decrypt (x : Bytes) : (s.decrypt x).length = 16 :=
  (Machine.length_decrypt s x).trans (h.schedNb_four h.nbFour)

theorem OcbReady.decrypt_encrypt (x : Bytes) (hx : x.length = 16) : s.decrypt (s.encrypt x) = x :=
  decryptBlock_encryptBlock h.four_le_schedNb _ (hx.trans (h.schedNb_four h.nbFour).symm)

theorem OcbReady.length_ocbSealed : s.ocbSealed.1.length = s.msgLen.toNat := by
  rw [s.ocbSealed_eq, length_ocbEncrypt h.length_encrypt, length_msgBytes]

theorem OcbReady.length_tag_ocbSealed : s.ocbSealed.2.length = 16 := by
  rw [s.ocbSealed_eq, ocbEncrypt_eq]
  exact length_ocbTag h.length_encrypt _ _ _ _

theorem OcbReady.length_ocbOpened : s.ocbOpened.1.length = s.msgLen.toNat := by
  rw [s.ocbOpened_eq, length_ocbDecrypt h.length_encrypt h.length_decrypt, length_msgBytes]

theorem OcbReady.exec_ocbEnc : exec .ocbEnc s = .next ((s.storeSealed s.ocbSealed).complete .noError) :=
  exec_of_passes (firstFailing_eq_none.mpr (by simp [checksOf, h.nbFour, h.keyed, h.msgFits, h.adFits]))

theorem OcbReady.exec_ocbDec {plain tag : Bytes} (hopened : s.ocbOpened = (plain, tag)) :
    exec .ocbDec s = .next
      (if tag = regBytes s.tag 16 then (s.storeMsg plain).complete .noError else s.complete .authenticationFailed) := by
  have hpass : firstFailing (checksOf s .ocbDec) = none :=
    firstFailing_eq_none.mpr (by simp [checksOf, h.nbFour, h.keyed, h.msgFits, h.adFits])
  rw [exec_of_passes hpass, effectOf, hopened, regBytes_eq_toList]
  split <;> rfl

/-- OCB_ENC leaves all that the two commands check. -/
theorem OcbReady.storeSealed (sealed : Bytes × Bytes) (e : ErrorCode) : OcbReady ((s.storeSealed sealed).complete e) :=
  ⟨⟨h.keyed, h.legal, h.own⟩, h.nbFour, h.msgFits, h.adFits⟩

/-- OCB_DEC after OCB_ENC decrypts what was written, with the header and the IV that OCB_ENC keeps. -/
theorem OcbReady.ocbOpened_storeSealed (hwf : s.mem.wf) {sealed : Bytes × Bytes}
    (hlen : sealed.1.length = s.msgLen.toNat) (e : ErrorCode) :
    ((s.storeSealed sealed).complete e).ocbOpened =
      ocbDecrypt s.encrypt s.decrypt (adBytes s s.adLen.toNat) sealed.1 (regBytes s.iv 16) := by
  have hmsg : msgBytes ((s.storeSealed sealed).complete e) s.msgLen.toNat = sealed.1 :=
    State.msgBytes_storeSealed hwf hlen e
  have had : adBytes ((s.storeSealed sealed).complete e) s.adLen.toNat = adBytes s s.adLen.toNat :=
    adBytes_storeMsg h.adFits _
  rw [← hmsg, ← had]
  exact State.ocbOpened_eq _

end

/-- What the statements assume is what OCB_ENC and OCB_DEC check. -/
theorem State.ScheduleOk.ocbReady {s : State} (hok : s.ScheduleOk) (hnb : s.nb = 4) (hkey : s.keyValid = true)
    (hmsg : s.msgLen.toNat ≤ s.params.msgBytes) (had : s.adLen.toNat ≤ s.params.adBytes) : OcbReady s :=
  ⟨hok.blockReady hkey, hnb, hmsg, had⟩

/-- Settles O50: the ciphertext is as long as the message, and the tag fills TAG. -/
theorem ocbEncCommand : Obligations.OcbEncCommand := by
  intro s hnb hkey hmem hok hmsg had
  have h := hok.ocbReady hnb hkey hmsg had
  obtain ⟨hwf, -⟩ := hmem
  have hlen := h.length_ocbSealed
  have htag := h.length_tag_ocbSealed
  have hexec := h.exec_ocbEnc
  rw [← s.ocbSealed_eq]
  -- Only the lengths of what OCB_ENC computed matter from here on.
  generalize s.ocbSealed = sealed at hlen htag hexec ⊢
  exact ⟨_, hexec, rfl,
    Prod.ext (State.msgBytes_storeSealed hwf hlen _) (s.regBytes_tag_storeSealed htag _),
    fun _ ha => read_storeMsg_outside s (hlen ▸ ha)⟩

/-- Settles O51: the one comparison of the recomputed tag with TAG decides whether the plaintext is written. -/
theorem ocbDecCommand : Obligations.OcbDecCommand := by
  intro s plain tag hnb hkey hmem hok hmsg had hopened
  have h := hok.ocbReady hnb hkey hmsg had
  obtain ⟨hwf, -⟩ := hmem
  rw [← s.ocbOpened_eq] at hopened
  have hlen : plain.length = s.msgLen.toNat := (congrArg (·.1.length) hopened).trans h.length_ocbOpened
  have hexec := h.exec_ocbDec hopened.symm
  constructor
  case left =>
    intro htag
    rw [if_pos htag] at hexec
    refine ⟨_, hexec, rfl, ?_, fun _ ha => read_storeMsg_outside s (hlen ▸ ha)⟩
    rw [← hlen]
    exact msgBytes_storeMsg hwf plain
  case right =>
    intro htag
    rwa [if_neg htag] at hexec

/-- Settles O52: OCB_DEC recomputes the tag that OCB_ENC wrote, and the message it stores back restores the memory. -/
theorem ocbRoundTrip : Obligations.OcbRoundTrip := by
  intro s hnb hkey hmem hok hmsg had
  have h := hok.ocbReady hnb hkey hmsg had
  obtain ⟨hwf, -⟩ := hmem
  have hlen := h.length_ocbSealed
  have htag := h.length_tag_ocbSealed
  have henc := h.exec_ocbEnc
  have hopened := h.ocbOpened_storeSealed hwf hlen .noError
  have hopens := ocbDecrypt_ocbEncrypt h.length_encrypt h.decrypt_encrypt (adBytes s s.adLen.toNat)
    (msgBytes s s.msgLen.toNat) (regBytes s.iv 16)
  rw [← s.ocbSealed_eq] at hopens
  rw [hopens] at hopened
  -- Only the lengths of what OCB_ENC computed matter from here on.
  generalize s.ocbSealed = sealed at hlen htag henc hopened
  have hdec := (h.storeSealed sealed .noError).exec_ocbDec hopened
  rw [s.regBytes_tag_storeSealed htag, if_pos rfl, State.storeMsg_storeSealed hwf hlen] at hdec
  exact ⟨_, (runList_cons _ henc).trans (runList_cons _ hdec), rfl⟩

end Sys2Proof.Machine

/-! ## What the bus never shows -/

namespace Sys2Proof.Machine

open Sys2Proof.Claim

/-- KEY reads 0 and W stands at no offset, so no value that a target reads as depends on them (10_state.md R28, R34). -/
theorem valueOf_with_key_w (s : State) (key : Vector Byte 32) (w : Vector SchedWord 120) (t : Target) :
    State.valueOf { s with key := key, w := w } t = s.valueOf t := by
  cases t <;> rfl

theorem readTarget_with_key_w (s : State) (key : Vector Byte 32) (w : Vector SchedWord 120) (t : Target) :
    State.readTarget { s with key := key, w := w } t = s.readTarget t := by
  rw [State.readTarget, valueOf_with_key_w]
  rfl

/-- Settles O18: a response shows the buffer sizes and the value of its target alone. -/
theorem keyAndScheduleAreNeverShown : Obligations.KeyAndScheduleAreNeverShown := by
  intro s s' a h
  rw [h]
  unfold State.responseTo
  simp only [readTarget_with_key_w]

end Sys2Proof.Machine

/-! ## The interrupt output -/

namespace Sys2Proof.Machine

open Sys2Proof.Claim

/-- IRQ is high exactly when it is enabled and DONE = 1 (60_exceptions.md R133). -/
theorem State.irq_eq_true_iff (s : State) : s.irq = true ↔ s.irqEn = true ∧ s.done = true := Bool.and_eq_true_iff

theorem State.irq_of_done {s : State} (h : s.done = true) : s.irq = s.irqEn := by rw [State.irq, h, Bool.and_true]

theorem State.irq_of_not_done {s : State} (h : s.done = false) : s.irq = false := by
  rw [State.irq, h, Bool.and_false]

/-- Every completion of a command word raises DONE and leaves IRQ_EN (40_control.md R65). -/
theorem engineStep_command_done {s : State} {w : Word} (hp : s.pending = .command w) :
    ∃ t, engineStep s = .next t ∧ t.done = true ∧ t.irqEn = s.irqEn := by
  cases hd : decode w with
  | ok i =>
    obtain ⟨t, ht⟩ := exec_answers i s
    refine ⟨t, (engineStep_of_decode_ok hp hd).trans ht, ?_⟩
    rw [exec_frame ht]
    exact ⟨rfl, rfl⟩
  | error e => exact ⟨_, engineStep_of_decode_error hp hd, rfl, rfl⟩

/-- Settles O22: IRQ follows what each event makes of IRQ_EN and DONE. -/
theorem interruptFollowsDone : Obligations.InterruptFollowsDone := by
  intro s
  refine ⟨s.irq_eq_true_iff, fun w hp => ?completion, fun v => ?ctrl, fun v hi => ?acceptance, fun v hv => ?clear,
    fun hp => ?resetClear⟩
  case completion =>
    obtain ⟨t, ht, hdone, hen⟩ := engineStep_command_done hp
    exact ⟨t, ht, (State.irq_of_done hdone).trans hen⟩
  case ctrl => rw [afterAccess_unlocked (t := .ctrl) v rfl rfl rfl]; rfl
  case acceptance => rw [afterAccess_cmd_of_idle v hi]; exact State.irq_of_not_done rfl
  case clear =>
    rw [afterAccess_unlocked (t := .status) v rfl rfl rfl]
    exact State.irq_of_not_done (by simp [State.storeTarget, hv])
  case resetClear => exact ⟨s.finishResetClear, by simp [engineStep, hp], rfl⟩

end Sys2Proof.Machine

/-! ## Which error a command reports -/

namespace Sys2Proof.Machine

open Sys2Proof.Claim

/-! ### The first of the failing checks -/

/-- Different errors have different numbers (60_exceptions.md R128). -/
theorem ErrorCode.toNat_code_injective : Function.Injective fun e : ErrorCode => e.code.toNat := by
  intro e e'
  cases e <;> cases e' <;> decide

/-- Checks in increasing code order report the lowest code that fails (60_exceptions.md R129). -/
theorem firstFailing_of_lowest {checks : List Check}
    (hsorted : checks.Pairwise fun c d => c.code.code.toNat ≤ d.code.code.toNat) {c : Check} (hc : c ∈ checks)
    (hfails : c.fails = true) (hlow : ∀ d ∈ checks, d.fails = true → c.code.code.toNat ≤ d.code.code.toNat) :
    firstFailing checks = some c.code := by
  induction checks with
  | nil => contradiction
  | cons d ds ih =>
    obtain ⟨hd, hds⟩ := List.pairwise_cons.mp hsorted
    cases hf : d.fails with
    | true =>
      have hle : d.code.code.toNat ≤ c.code.code.toNat := by
        rcases List.mem_cons.mp hc with rfl | hc
        · exact le_rfl
        · exact hd c hc
      rw [firstFailing, if_pos hf,
        ErrorCode.toNat_code_injective (hle.antisymm (hlow d List.mem_cons_self hf))]
    | false =>
      have hne : c ≠ d := by
        rintro rfl
        simp [hf] at hfails
      rw [firstFailing, if_neg (by simp [hf])]
      exact ih hds (List.mem_of_ne_of_mem hne hc) fun d' hd' => hlow d' (List.mem_cons_of_mem _ hd')

/-! ### The checks with OCB_DEC's comparison of the tags -/

/-- Code 9: the recomputed tag differs from TAG (46_ocb2_pmac.md R127). -/
def State.tagCheck (s : State) : Check := ⟨s.ocbOpened.2 != s.tag.toList, .authenticationFailed⟩

@[simp] theorem State.tagCheck_code (s : State) : s.tagCheck.code = .authenticationFailed := rfl

/-- The checks of a command, the comparison that ends OCB_DEC's pseudocode among them (60_exceptions.md R129). -/
def reportingChecks (s : State) : Instr → List Check
  | .ocbDec => checksOf s .ocbDec ++ [s.tagCheck]
  | i => checksOf s i

theorem firstFailing_append (cs ds : List Check) :
    firstFailing (cs ++ ds) = (firstFailing cs).or (firstFailing ds) := by
  induction cs with
  | nil => rfl
  | cons c cs ih =>
    simp only [List.cons_append, firstFailing]
    split
    · rfl
    · exact ih

/-- The pseudocode of every command but OCB_DEC ends in success; OCB_DEC's ends as the tags compare. -/
theorem firstFailing_reportingChecks (s : State) (i : Instr) :
    (firstFailing (reportingChecks s i)).getD .noError = (firstFailing (checksOf s i)).getD (effectOf s i).2 := by
  cases i with
  | ocbDec =>
    rw [reportingChecks, firstFailing_append]
    cases firstFailing (checksOf s .ocbDec) with
    | none => by_cases htag : s.ocbOpened.2 = s.tag.toList <;> simp [effectOf, firstFailing, State.tagCheck, htag]
    | some e => rfl
  | _ => rfl

/-- ERRCODE after a completion is the first failing code, or 0. -/
theorem exec_errCode {i : Instr} {s t : State} (h : exec i s = .next t) :
    t.errCode = (firstFailing (reportingChecks s i)).getD .noError := by
  rw [firstFailing_reportingChecks]
  rcases exec_cases h with ⟨e, he, rfl⟩ | ⟨hpass, rfl⟩
  · rw [he]
    rfl
  · rw [hpass]
    rfl

theorem reportingChecks_sorted (s : State) (i : Instr) :
    (reportingChecks s i).Pairwise fun c d => c.code.code.toNat ≤ d.code.code.toNat := by
  cases i <;> simp [reportingChecks, checksOf, State.tagCheck, ErrorCode.code]

/-! ### The checks are the marked conditions

Each check fails exactly when the condition of its code holds (60_exceptions.md R129). -/

theorem legalWords_eq_false_iff (n : BitVec 4) : legalWords n = false ↔ ¬ legalSize n := by
  rw [← Bool.not_eq_true, legalWords_iff]

/-- With no schedule, SNB = 0, the padded length is 0 on both sides. -/
theorem ceilDiv_mul (n bs : Nat) : ceilDiv n bs * bs = (n / bs + if n % bs = 0 then 0 else 1) * bs := by
  rcases bs.eq_zero_or_pos with rfl | hbs
  · rfl
  · rw [ceilDiv_eq_div_add hbs]

section
variable (s : State)

theorem roundCheck_fails_iff (r : Byte) :
    (s.roundCheck r).fails = true ↔ max s.snb.toNat s.snk.toNat + 6 < r.toNat := decide_eq_true_iff

theorem tagCheck_fails_iff : s.tagCheck.fails = true ↔
    (ocbDecrypt s.encrypt s.decrypt (adBytes s s.adLen.toNat) (msgBytes s s.msgLen.toNat) (regBytes s.iv 16)).2 ≠
      regBytes s.tag 16 := by
  rw [State.tagCheck, bne_iff_ne, ← s.ocbOpened_eq, regBytes_eq_toList]

/-- The table of 60_exceptions.md R129, command by command: to show something of every marked code whose condition holds
is to show it of the code of every check that fails. The two length checks of OCB_ENC and OCB_DEC are one condition. -/
theorem forall_marked_iff (i : Instr) (P : ErrorCode → Prop) :
    (∀ e ∈ marked i, condition s i e → P e) ↔ ∀ c ∈ reportingChecks s i, c.fails = true → P c.code := by
  cases i
  all_goals simp only [marked, reportingChecks, checksOf, List.cons_append, List.nil_append, List.forall_mem_cons,
    roundCheck_fails_iff, tagCheck_fails_iff]
  all_goals simp [legalWords_eq_false_iff, condition, badBlockSize, roundTooBig, tooLong, ceilDiv_mul,
    State.schedNb, or_imp, and_assoc]

end

/-- Settles O53: the reporting checks stand in increasing code order and are the marked conditions, so the first that
fails has the lowest failing code. -/
theorem lowestFailingCodeIsReported : Obligations.LowestFailingCodeIsReported := by
  intro i s
  obtain ⟨t, ht⟩ := exec_answers i s
  refine ⟨t, ht, ?none, ?lowest⟩
  all_goals rw [exec_errCode ht]
  case none =>
    intro hnone
    have hpass := (forall_marked_iff s i fun _ => False).mp hnone
    rw [firstFailing_eq_none.mpr fun c hc => Bool.eq_false_iff.mpr (hpass c hc)]
    rfl
  case lowest =>
    refine (forall_marked_iff s i _).mpr fun c hc hfails hlow => ?_
    have hle := (forall_marked_iff s i fun e => c.code.code.toNat ≤ e.code.toNat).mp
      fun e he hcond => Nat.le_of_not_lt fun hlt => hlow e he hlt hcond
    rw [firstFailing_of_lowest (reportingChecks_sorted s i) hc hfails hle]
    rfl

end Sys2Proof.Machine

/-! ## A completion with an error -/

namespace Sys2Proof.Machine

open Sys2Proof.Claim

/-- Pseudocode that ends with an error, OCB_DEC's alone, has written nothing (46_ocb2_pmac.md R127). -/
theorem effectOf_of_error {s : State} {i : Instr} (h : (effectOf s i).2 ≠ .noError) : (effectOf s i).1 = s := by
  cases i with
  | ocbDec =>
    simp only [effectOf] at h ⊢
    split_ifs at h ⊢ with htag
    · contradiction
    · rfl
  | _ => exact absurd rfl h

/-- An error is precise and atomic: the state is the one before, except STATUS (60_exceptions.md R130). -/
theorem exec_eq_fail_of_error {i : Instr} {s t : State} (h : exec i s = .next t) (he : t.errCode ≠ .noError) :
    t = s.fail t.errCode := by
  rcases exec_cases h with ⟨e, -, rfl⟩ | ⟨-, rfl⟩
  · rfl
  · rw [effectOf_of_error he]
    rfl

/-- Settles O54: a word that does not decode and a command that fails both end in `State.fail`, and an acceptance
clears ERRCODE. -/
theorem failedCommandChangesOnlyStatus : Obligations.FailedCommandChangesOnlyStatus := by
  refine ⟨fun s t w hp ht he => ?word, fun i s t ht he => exec_eq_fail_of_error ht he, fun s v hi => ?acceptance⟩
  case word =>
    cases hd : decode w with
    | ok i => exact exec_eq_fail_of_error ((engineStep_of_decode_ok hp hd).symm.trans ht) he
    | error e =>
      rw [engineStep_of_decode_error hp hd] at ht
      cases ht
      rfl
  case acceptance => rw [afterAccess_cmd_of_idle v hi]; rfl

end Sys2Proof.Machine

/-! ## Every step answers a next state, and what is pending completes -/

namespace Sys2Proof.Machine

/-- The engine's step is answered by a state that owes nothing (40_control.md R65, 70_reset_and_hazards.md R145). -/
theorem engineStep_answers_not_busy (s : State) : ∃ t, engineStep s = .next t ∧ t.busy = false := by
  cases hp : s.pending with
  | idle => exact ⟨s, by simp [engineStep, hp], s.busy_eq_false_iff.mpr hp⟩
  | resetClear => exact ⟨s.finishResetClear, by simp [engineStep, hp], s.busy_finishResetClear⟩
  | command w =>
    cases hd : decode w with
    | ok i =>
      obtain ⟨t, ht⟩ := exec_answers i s
      refine ⟨t, (engineStep_of_decode_ok hp hd).trans ht, ?_⟩
      rw [exec_frame ht]
      rfl
    | error e => exact ⟨_, engineStep_of_decode_error hp hd, s.busy_fail _⟩

/-- Settles O8: the engine's step is answered, and the outside world's is a move of it or none. -/
theorem everyStepAnswersNext : Obligations.EveryStepAnswersNext := by
  intro s
  cases ht : s.engineTurn with
  | true =>
    obtain ⟨t, hstep, -⟩ := engineStep_answers_not_busy s
    exact ⟨t, (step_of_engineTurn ht).trans hstep⟩
  | false =>
    cases hin : s.inputs with
    | nil => exact ⟨s, step_of_no_move ht hin⟩
    | cons m rest => exact ⟨_, step_of_move ht hin⟩

/-- A run goes on from the state that its first step answers. -/
theorem run_succ_of_step {M : Host.Core} {s t : M.State} (h : M.step s = .next t) (k : Nat) :
    M.run (k + 1) s = M.run k t := by
  rw [Host.Core.run, h]

/-- On its turn the engine completes what is pending in one step. -/
theorem run_one_of_engineTurn {s : State} (ht : s.engineTurn = true) :
    ∃ t, Host.Core.run Sys2Proof.core 1 s = .next t ∧ t.busy = false := by
  obtain ⟨t, hstep, hidle⟩ := engineStep_answers_not_busy s
  exact ⟨t, run_succ_of_step ((step_of_engineTurn ht).trans hstep) 0, hidle⟩

/-- A busy engine lets the outside world move only while a move is left (log 2). -/
theorem exists_move_of_not_engineTurn {s : State} (hb : s.busy = true) (ht : s.engineTurn = false) :
    ∃ m rest, s.inputs = m :: rest := by
  refine List.exists_cons_of_ne_nil fun hin => ?_
  simp [engineTurn_of (s.busy_eq_true_iff.mp hb) (.inr (.inl hin))] at ht

/-- A move other than reset takes back nothing that is pending, and uses up one of the delay (R64, log 2). -/
theorem perform_takeMove_of_busy {s : State} {m : Move} (rest : List Move) (hb : s.busy = true) (hm : m ≠ .reset) :
    ((s.takeMove rest).perform m).busy = true ∧ ((s.takeMove rest).perform m).inputs = rest ∧
      ((s.takeMove rest).perform m).delay = s.delay - 1 := by
  rw [perform_frame_of_busy (s := s.takeMove rest) hb hm]
  exact ⟨hb, rfl, rfl⟩

/-- Settles O9, by induction on the delay: the engine moves, or an outside move leaves BUSY = 1 and one less to wait. -/
theorem pendingCompletionComes : Obligations.PendingCompletionComes := by
  intro s hb hr
  induction hd : s.delay generalizing s with
  | zero =>
    obtain ⟨t, hrun, hidle⟩ := run_one_of_engineTurn (engineTurn_of (s.busy_eq_true_iff.mp hb) (.inl hd))
    exact ⟨1, t, le_rfl, hrun, hidle⟩
  | succ d ih =>
    cases ht : s.engineTurn with
    | true =>
      obtain ⟨t, hrun, hidle⟩ := run_one_of_engineTurn ht
      exact ⟨1, t, by omega, hrun, hidle⟩
    | false =>
      obtain ⟨m, rest, hin⟩ := exists_move_of_not_engineTurn hb ht
      rw [hin, hd, List.take_succ_cons, List.mem_cons, not_or] at hr
      obtain ⟨hm, hrest⟩ := hr
      obtain ⟨hb', hin', hd'⟩ := perform_takeMove_of_busy rest hb (Ne.symm hm)
      rw [hd, Nat.add_sub_cancel] at hd'
      obtain ⟨k, t, hk, hrun, hidle⟩ := ih ((s.takeMove rest).perform m) hb' (by rwa [hin', hd']) hd'
      exact ⟨k + 1, t, Nat.succ_le_succ hk, (run_succ_of_step (step_of_move ht hin) k).trans hrun, hidle⟩

end Sys2Proof.Machine

/-! ## The reset and the reset-clear -/

namespace Sys2Proof.Machine

/-- Settles O23: the reset input is `State.applyReset`, and the engine's step completes the reset-clear. -/
theorem resetAndResetClear : Obligations.ResetAndResetClear := by
  refine ⟨fun s => ⟨s.applyReset, rfl, rfl⟩, fun s hp => ⟨?completion, fun hn => ?turn⟩⟩
  case completion => simp [engineStep, hp, State.finishResetClear]
  case turn => exact step_of_engineTurn (engineTurn_of (by simp [hp]) hn)

/-- With every flag but BUSY clear, STATUS is BUSY alone (10_state.md R21). -/
theorem State.status_of_flags_clear {s : State} (hdone : s.done = false) (hkey : s.keyValid = false)
    (hovr : s.ovr = false) (herr : s.errCode = .noError) : s.status = if s.busy then 1 else 0 := by
  cases hb : s.busy <;> simp [State.status, State.err, ErrorCode.code, hb, hdone, hkey, hovr, herr]

/-- Settles O24: the registers and the schedule hold zeros alone, the memory lists no byte, and the rest computes. -/
theorem resetValues : Obligations.ResetValues := by
  refine fun p => ⟨State.resetWith p, rfl, rfl, ?ctrl, ?cfg, rfl, ?status, ?cleared, rfl, rfl, rfl, ?key, ?blk, ?iv,
    ?tag, Memory.read_nil, ?schedule, rfl, rfl, rfl, rfl, rfl⟩
  case ctrl => simp [State.ctrl, State.resetWith]
  case cfg => simp [State.cfg, State.resetWith]
  case status | cleared => exact State.status_of_flags_clear rfl rfl rfl rfl
  case key | blk | iv => exact byteOf_replicate_zero 32
  case tag => exact byteOf_replicate_zero 16
  case schedule => exact scheduleWord_replicate_zero

/-- The reset-clear that is pending after reset finds everything it refers to at its reset value
(70_reset_and_hazards.md R145). -/
theorem engineOk_resetWith (p : Config.Params) : (State.resetWith p).EngineOk :=
  ⟨nofun, fun _ => ⟨rfl, rfl, rfl, rfl, rfl, rfl⟩⟩

/-- Settles O60: after reset no buffer byte is listed, KEYVALID = 0, the geometry is cleared and RCLR is pending. -/
theorem resetMeetsInvariants : Obligations.ResetMeetsInvariants := fun p =>
  ⟨⟨Memory.wf_nil, nofun⟩, nofun, geometryOk_of_cleared rfl rfl rfl, engineOk_resetWith p⟩

end Sys2Proof.Machine
